-- ==== Sys2Proof/Word.lean ====
section
/-! DEFINITION. The word types of the CM9440 and their plainest arithmetic. -/

namespace Sys2Proof

/-- A byte of memory or of a two-wire transfer. -/
abbrev Byte := BitVec 8

/-- A 32-bit word: a register, an address, a Slaso value register or a Q1.31 sample. -/
abbrev Word := BitVec 32

/-- Sparse data by key: a list of key and value pairs, keys strictly rising, no entry equal to the default that an
unlisted key reads as. -/
abbrev SMap (α : Type) := List (Nat × α)

/-- One bit as a word-sized number. -/
def b2n (b : Bool) : Nat := if b then 1 else 0

end Sys2Proof
end

