-- ==== Sys2Proof/Kinds.lean ====
section
/-! DEFINITION. The finite kinds the spec names (modes, states, causes, sides of a port), used by the commands'
operands and by the state. Each cites the rule or table it is read from. -/

namespace Sys2Proof

/-- R56, Table 03.3: the power modes, in the order of PWR.MODE. -/
inductive PowerMode where
  | run | listen | standby | shutdown
  deriving DecidableEq, Repr

/-- R64, R66: what the speaker boost is doing. -/
inductive BoostPhase where
  | idle | softStart | on | ovpStop | ssFailed
  deriving DecidableEq, Repr

/-- Tables 02.3 and 02.5: the internal resistor at a ball, in ohms: to VSUP, or to ground. -/
inductive Pull where
  | none
  | up (ohms : Nat)
  | down (ohms : Nat)
  deriving DecidableEq, Repr

/-- What the part drives a ball with: nothing, a level, or the signal of the function that owns it. -/
inductive Drive where
  | off | low | high | signal
  deriving DecidableEq, Repr

/-- The state of a ball (Tables 02.3 to 02.5). -/
structure Ball where
  /-- what drives it -/
  drive : Drive := .off
  /-- the resistor at it -/
  pull : Pull := .none
  deriving DecidableEq, Repr

/-- Table 02.4: the phases of a configurable ball. -/
inductive BallPhase where
  | unfused | reset | after | assigned
  deriving DecidableEq, Repr

/-- Table 02.5: the balls without a fuse index. -/
inductive FixedBall where
  | rstN | dbgClk | dbgIo | pttN | testEn | twhScl | twhSda | twcScl | twcSda | usbDp | usbDm | ringIn | ringOut
  | spk (ch : Fin 2) | hp (right : Bool) | lout (right : Bool) | micbias (n : Fin 2) | rdac (n : Fin 2)
  | ledSnk (n : Fin 24) | analogue
  deriving DecidableEq, Repr

/-- Table 04.9: CLK.STATUS.REF_STATE. -/
inductive RefState where
  | locked | acquiring | holdover | freeRun
  deriving DecidableEq, Repr

/-- R96, R97, R103: unpowered; reset held; bring-up steps 2 and 3; step 4 done; internal reset released. -/
inductive BootPhase where
  | unpowered | held | regulators | fused | running
  deriving DecidableEq, Repr

/-- Table 05.17: RST.BOOT_STATUS.STAGE. -/
inductive Stage where
  | romStart | read | check | waitHost | waitDfu | handover | running | void | fabWait
  deriving DecidableEq, Repr

/-- Table 05.1: the cause codes of RST.CAUSE. -/
inductive ResetCause where
  | none | bor | rstN | regFail | clkFail | thermal | wdog | soft | debug | lcy | shutdownWake
  deriving DecidableEq, Repr

/-- Table 06.1: the life-cycle states. -/
inductive Life where
  | fab | develop | sealed | ret | void
  deriving DecidableEq, Repr

/-- R505: what the quiet stop in progress ends in. -/
inductive QuietKind where
  | seal | toReturn | toVoid | soft
  deriving DecidableEq, Repr

/-- R128, R129: the signature check in progress. -/
inductive AuthKind where
  | vendor | returnReq
  deriving DecidableEq, Repr

/-- R53: the rails watched in operation. -/
inductive Rail where
  | vcore | vana | vusb
  deriving DecidableEq, Repr

/-- R83, R84: which side of which queue a sample period passes. -/
inductive PortSide where
  | rxPort | rxCore | txCore | txPort
  deriving DecidableEq, Repr

/-- Table 03.4: the wake sources; USB resume and VBUS rising share bit 4. -/
inductive WakeSrc where
  | voice | ptt | gpio | twh | usbResume | usbVbus | ring | timer
  deriving DecidableEq, Repr

/-- R171, R238: who submits a steward-only word. -/
inductive Source where
  | host | usb | ring | steward
  deriving DecidableEq, Repr

/-- Table 09.3: the context states. -/
inductive CtxMode where
  | free | stopped | running | halted
  deriving DecidableEq, Repr

/-- Table 12.4: LANE.MAP.LX_STATE. -/
inductive LxState where
  | spare | inUse | failed
  deriving DecidableEq, Repr

/-- Table 12.1: the lane fault triggers. -/
inductive Trigger where
  | regfileEcc | bankEcc | selfcheck | watchdog | snapshotEcc | injected
  deriving DecidableEq, Repr

/-- Table 13.3: the power state of a bank quarter. -/
inductive BankPower where
  | on | retain | off
  deriving DecidableEq, Repr

/-- R276, R282: what the ECC check of a word finds. -/
inductive Ecc where
  | clean | single | uncorr
  deriving DecidableEq, Repr

/-- Table 15.2: the serial port states. -/
inductive PortState where
  | off | seeking | running | lost
  deriving DecidableEq, Repr

/-- Table 16.9: USB.STATUS.STATE. -/
inductive UsbState where
  | detached | attached | default | addressed | configured | suspended | l1 | dfu
  deriving DecidableEq, Repr

/-- R331, R332: whether the device presents a DFU-mode descriptor set. -/
inductive DfuMode where
  | off | runTime | bootRom
  deriving DecidableEq, Repr

/-- R331: the DFU 1.1 function state. -/
inductive DfuState where
  | appIdle | appDetach | dfuIdle | dnloadSync | dnBusy | dnloadIdle | manifestSync | manifest
  | manifestWaitReset | uploadIdle | error
  deriving DecidableEq, Repr

/-- Table 17.9: RING.STATUS.STATE. -/
inductive RingState where
  | off | seek | check | wait | joining | trained | forming | conflict
  deriving DecidableEq, Repr

/-- R354: the operation of a ring send record. -/
inductive SendOp where
  | block | read | write | eject
  deriving DecidableEq, Repr

/-- R150 to R152: what the two-wire controller is doing. -/
inductive TwcPhase where
  | idle | waitBus | transfer | busClear
  deriving DecidableEq, Repr

/-- Table 07.10: TWC.STATUS.RESULT. -/
inductive TwcResult where
  | none | done | nakAddr | nakData | arbLost | stretchTimeout | busStuck | aborted | bufErr | busBusy
  deriving DecidableEq, Repr

/-- Table 20.4: HP.STATUS.STATE. -/
inductive HpState where
  | off | starting | on | stopping | armed
  deriving DecidableEq, Repr

/-- Table 20.4: JACK.STATUS.STATE. -/
inductive JackState where
  | disabled | absent | inserting | detecting | present | removing
  deriving DecidableEq, Repr

/-- Table 20.4: JACK.STATUS.TYPE. -/
inductive JackType where
  | none | headphone | headset | line | untested
  deriving DecidableEq, Repr

/-- Table 21.3: the speaker channel states. -/
inductive SpkState where
  | off | waitBoost | starting | running | stopping | retryWait | latched | muted
  deriving DecidableEq, Repr

/-- Table 21.7: SPK.STATUS_x.CAUSE. -/
inductive SpkCause where
  | none | startLimit | consec | rate | dc | otp
  deriving DecidableEq, Repr

/-- Table 22.4: the Glint channel states. -/
inductive GlintState where
  | off | starting | running | stopping
  deriving DecidableEq, Repr

/-- R432: the part of its cycle a tone generator is in. -/
inductive TonePhase where
  | idle | on | rampOut | off | done
  deriving DecidableEq, Repr

/-- R246: the roles of ROUTE. -/
inductive RouteRole where
  | writer | reader | unread | free
  deriving DecidableEq, Repr

/-- R171: the mailboxes, in the order of their rotation. -/
inductive MbxSource where
  | host | usb | ring
  deriving DecidableEq, Repr

/-- R187: who issues a Slaso instruction. -/
inductive Agent where
  | ctx (n : Fin 1024) | steward
  deriving DecidableEq, Repr

/-- R342: what became of the isochronous OUT packet of a (micro)frame. -/
inductive IsoResult where
  | good | crcError | missed
  deriving DecidableEq, Repr

/-- R323, R324: the descriptor a GET_DESCRIPTOR asks for. -/
inductive DescKind where
  | device | configuration | string (n : Nat) | bos
  deriving DecidableEq, Repr

/-- R427: what the headphone rail meets: a peak above 0.60 V ahead, no peak above 0.50 V for RAIL_HOLD, the end of a step, a peak above 0.70 V on the fixed low rail. -/
inductive RailEvent where
  | peak | quiet | settled | overLow
  deriving DecidableEq, Repr

/-- R427: the step the class-H rail is taking. -/
inductive RailStep where
  | none | up | down
  deriving DecidableEq, Repr

/-- A ring control word (R352, Table 17.3). -/
structure RingMsg where
  /-- TYPE, Table 17.4; 0 for EMPTY -/
  typ : BitVec 4 := 0
  /-- RLY: relayed once by the master -/
  rly : Bool := false
  /-- destination address -/
  dst : BitVec 7 := 0
  /-- source address -/
  src : BitVec 7 := 0
  /-- sequence number -/
  seq : BitVec 5 := 0
  /-- ARG -/
  arg : BitVec 8 := 0
  /-- DATA -/
  data : Word := 0
  deriving DecidableEq, Repr

/-- A ring frame (R345, Table 17.1); SOF, EOF and FILL carry nothing else. -/
structure RingFrame where
  /-- FRAME_NO -/
  no : BitVec 16 := 0
  /-- MASTER_TAG -/
  tag : Byte := 0
  /-- FLAGS.JOIN -/
  join : Bool := false
  /-- FLAGS.CALL -/
  call : Bool := false
  /-- CONTROL -/
  ctl : RingMsg := {}
  /-- PRESENT -/
  present : BitVec 64 := 0
  /-- WRITTEN -/
  written : BitVec 384 := 0
  /-- the slots that are not zero, as 24-bit samples in bits 31 to 8 -/
  slots : SMap Word := []
  /-- the CRC field as received or sent -/
  crc : Word := 0
  deriving DecidableEq, Repr

/-- What the perform phase of one word of a block measures (R173): the word's index; whether it passed its time limit; for
SEAL whether each Glacier slot is readable; for CALRUN the condition of Table 11.12 that fails, 0 for none, with its
channel and value for MIC.CAL_RESULT, and the measured numbers. -/
structure PerfRes where
  /-- body index of the word -/
  idx : Nat := 0
  /-- its own time limit passed -/
  timeout : Bool := false
  /-- slot A is readable -/
  aOk : Bool := true
  /-- slot B is readable -/
  bOk : Bool := true
  /-- sub-reason of the condition that fails -/
  sub : Nat := 0
  /-- MIC.CAL_RESULT.CHANNEL -/
  ch : Nat := 0
  /-- MIC.CAL_RESULT.VALUE -/
  value : Byte := 0
  /-- SAR_CAL: CAL_OFFSET, CAL_GAIN; AADC_OFFSET: the offset; AADC_SELFTEST: level error in 0.01 dB, THD+N in dB below 0;
  MIC_ARRAY: for each channel of CAL_SET its level in steps of CAL_GAIN and its arrival in 1/16 µs -/
  vals : List Int := []
  deriving DecidableEq, Repr

/-- R276, R277: who finds what the ECC check of a RAM word gives: the scrubber, the owner port of its bank, the steward's fetch
of an instruction, or an engine that reads through the system port. -/
inductive EccFinder where
  | scrubber | owner | stewardFetch | engine
  deriving DecidableEq, Repr

/-- R276, R277: what the ECC check of a RAM word finds, and for whom. -/
structure RamFind where
  /-- what the check finds -/
  what : Ecc := .clean
  /-- who reads the word -/
  finder : EccFinder := .scrubber
  deriving DecidableEq, Repr

/-- R282, R283: what the ECC check of a Glacier word finds: at the scrubber's position, or at an address from which an image
is read next (at boot, at a manifestation, by SEAL). -/
inductive GlFind where
  | scrub (e : Ecc) | image (a : Word) (e : Ecc)
  deriving DecidableEq, Repr

/-- R252, R265: an error detected on a lane: corrected, and so counted only, or a lane fault, in the cycle of the fault before
or not. -/
inductive LaneError where
  | corrected | fault (same : Bool)
  deriving DecidableEq, Repr

/-- What the boot ROM meets at the EEPROM (R110): the header attempts that got no answer, at most three; the SCL pulses of the
last bus clear; and the bytes that each 7-bit target address which answers gives, from its offset 0. -/
structure EepromRead where
  /-- attempts at the header that failed -/
  failed : Fin 4 := 0
  /-- pulses of the last bus clear, 0 to 9 -/
  clocks : Fin 10 := 0
  /-- target address and its bytes -/
  pages : List (BitVec 7 × List Byte) := []
  deriving DecidableEq, Repr

/-- What the converters hand over at a tick (R17, R371): samples of microphone channels after the chain of Table 18.1,
and the wake path's samples of MIC_A and MIC_B recorded since the last command that carried any. -/
structure TickIn where
  /-- channel and its samples, in order -/
  mics : List (Nat × List Word) := []
  /-- samples of the two wake microphones -/
  wake : List (Word × Word) := []
  /-- the speaker channels whose clipper has acted in the frame (R447) -/
  spkClip : BitVec 2 := 0
  deriving DecidableEq, Repr

end Sys2Proof
end

