-- ==== Sys2Proof/Syntax.lean ====
section
/-! DEFINITION. The commands: one constructor for each row of spec/opcode_table.json, in the table's order.
The table gives a row no bits and no fields; the operands are those that the row's rule leaves to the outside
(assumption log 3). -/

namespace Sys2Proof

/-- The commands of the CM9440, one for each row of the table. -/
inductive Instr where
  /-- R49. VSUP rises through the POR release threshold and bring-up starts at step 1. -/
  | porRelease
  /-- R49. VSUP falls below the BOR threshold, reset is asserted and the ring bypass closes. -/
  | bor (late : Bool)
  /-- R54. VKEEP falls below 1.10 V with VSUP absent, so the keep-domain contents are lost. -/
  | keepDomainLost
  /-- R98. An RST_N low pulse long enough to be taken asserts internal reset. -/
  | rstNPulse (ns : Nat) (late : Bool)
  /-- R98. RST_N rises and bring-up begins at step 2. -/
  | rstNRelease
  /-- R97. The 10 µs hold of an internally generated reset ends and bring-up begins. -/
  | resetHoldExpiry
  /-- R96. The die temperature stays above 140 °C and the device resets with cause THERMAL. -/
  | thermalReset (same : Option ResetCause)
  /-- R97. The die cools below 125 °C and bring-up begins after a thermal reset. -/
  | thermalResetRelease
  /-- R96. In STANDBY the keep-domain thermal comparator samples the main sensor every 1 ms. -/
  | thermalComparatorSample (hot : Bool)
  /-- R116. The steward watchdog timeout passes and the device resets with cause WDOG. -/
  | watchdogExpiry (same : Option ResetCause)
  /-- R52. A rail not in regulation holds reset, and the regulator step is retried every 10 ms. -/
  | regulatorRetry
  /-- R72. The main PLL locks in bring-up step 3, and the fuse map load of step 4 follows. -/
  | pllLocked (pinOk : Bool)
  /-- R77. No valid reference count 2 ms into step 3, so the PLL locks to the free-running trim oscillator. -/
  | refAbsentTimeout
  /-- R106. Internal reset rises at step 5, the straps are sampled and the boot ROM starts its path. -/
  | internalResetRelease (boot ckmode : BitVec 2)
  /-- R109. The boot ROM finishes loading and checking an image, then hands over or falls back. -/
  | imageCheckComplete (aOk bOk : Bool) (eeprom : EepromRead)
  /-- R110. In WAIT_HOST, a doorbell of 0xA5 submits the staged boot image for checking. -/
  | hostImageSubmit
  /-- R16. A frame boundary performs the buffer exchanges and applies every pending change. -/
  | tick (inp : TickIn)
  /-- R284. Mode entry proceeds once the Glacier write queue has drained. -/
  | modeEntryAfterDrain
  /-- R53. VCORE, VANA or VUSB stays more than 6 % from nominal for 10 µs. -/
  | regOutOfRegulation (r : Rail)
  /-- R53. An enabled rail returns to regulation and its OK flag sets again. -/
  | regBackInRegulation (r : Rail)
  /-- R53. VCORE or VANA stays out of regulation for 100 µs, causing a reset with cause REG_FAIL. -/
  | regFailTimeout (same : Option ResetCause)
  /-- R55. KEEP_CHARGED has not read 1 within 500 ms of POR, so VKEEP_LOW is raised. -/
  | vkeepCheckTimeout
  /-- R55. KEEP_CHARGED falls from 1 to 0 with VSUP above BOR, raising VKEEP_LOW. -/
  | keepChargeDrop
  /-- R57. An enabled wake source fires outside RUN and exit to RUN begins. -/
  | wakeSource (w : WakeSrc)
  /-- R58. The first tick of RUN after a wake resumes the contexts and raises PWR_WAKE. -/
  | wakeExit
  /-- R57. The keep-domain wake timer expires and acts as a wake source. -/
  | wakeTimerExpiry
  /-- R61. The supply monitor takes a VSUP sample every 1 µs and compares it with its thresholds. -/
  | vsupSample (mv : BitVec 12)
  /-- R61. VSUP has stayed 40 mV above a threshold for 200 ms, so the sag step falls. -/
  | sagStepRelease
  /-- R64. VSPK comes within 3 % of its target and PGOOD sets. -/
  | boostPgood
  /-- R64. VSPK over-voltage stops the boost and raises BOOST_FAULT. -/
  | boostOvp
  /-- R64. VSPK falls below its target and the boost restarts at soft start. -/
  | boostOvpRecovery
  /-- R66. PGOOD has not set within 20 ms of BOOST.EN, so the boost stops and SS_FAIL sets. -/
  | boostSsTimeout
  /-- R71. The boost holds its peak limit for 1 ms without a break. -/
  | boostIlim
  /-- R75. The reference monitor judges the REFCLK edge count of one keep-domain RC period. -/
  | refMonitorPeriod (count : Nat)
  /-- R76. The reference is declared lost and REFCLK switches glitch-free to trim-oscillator holdover. -/
  | refLost
  /-- R76. The reference has been valid for 32 RC periods and the PLL steers back to it. -/
  | refRestored
  /-- R78. The PLL lock detector drops while the reference is valid. -/
  | pllUnlock
  /-- R78. Lock has not returned within 2 ms, causing a reset with cause CLK_FAIL. -/
  | pllUnlockTimeout (same : Option ResetCause)
  /-- R83. A port sample period enters or leaves its dual-clock queue. -/
  | portSamplePeriod (port : Fin 6) (side : PortSide) (samples : List Word) (clk : Bool)
  /-- R87. A tracking ASRC bank acquires lock. -/
  | asrcLock (bank : Fin 6)
  /-- R88. A tracking bank loses lock, feeds silence and raises ASRC_UNLOCK. -/
  | asrcUnlock (bank : Fin 6)
  /-- R126. A debug frame reads a debug-local register. -/
  | dbgDread (idx : BitVec 5) (crc : Byte)
  /-- R126. A debug frame writes a debug-local register other than DBG_CMD. -/
  | dbgDwrite (idx : BitVec 5) (w : Word) (crc : Byte)
  /-- R126. A debug frame reads a system address through the system port. -/
  | dbgRead (a : Word) (crc : Byte) (e : Ecc)
  /-- R126. A debug frame writes a system address through the system port. -/
  | dbgWrite (a w : Word) (crc : Byte) (hit : Bool)
  /-- R125. 64 clocks with DBG_IO held low reset the debug shifter. -/
  | debugShifterReset
  /-- R128. The steward halts after its current command block. -/
  | dbgHalt (crc : Byte)
  /-- R128. The halted steward resumes. -/
  | dbgResume (crc : Byte)
  /-- R128. The steward runs one instruction or one whole command block. -/
  | dbgStep (crc : Byte)
  /-- R128. The device resets with cause DEBUG. -/
  | dbgReset (crc : Byte)
  /-- R128. A fresh 128-bit nonce is generated. -/
  | challenge (crc : Byte)
  /-- R129. DBG_SIG is verified with purpose VEND to open a vendor session. -/
  | vendorSession (crc : Byte)
  /-- R129. The token and signature are checked to start SEALED to RETURN. -/
  | returnRequest (crc : Byte)
  /-- R128. The debug VOID command starts a transition to VOID. -/
  | dbgVoid (crc : Byte)
  /-- R129. The 3 ms signature check ends with success or INTEGRITY failure. -/
  | dbgAuthComplete
  /-- R129. The 1,000 ms in which CHALLENGE fails with BUSY after an authentication failure ends. -/
  | authLockoutExpiry
  /-- R139. An address byte on the host bus is matched and acknowledged or NAKed. -/
  | twhAddress (a : BitVec 7)(read early : Bool)
  /-- R141. The first data byte of a write transfer sets the pointer. -/
  | twhPointerWrite (b : Byte)
  /-- R143. A data byte is written at the pointer and a completed word is applied. -/
  | twhWriteByte (b : Byte)
  /-- R142. A byte is shifted out, with the word snapshot taken at its first byte. -/
  | twhReadByte (nak late : Bool)(e : Ecc)
  /-- R143. A STOP or repeated START ends a transfer, applying a partial word and any pending comparator change. -/
  | twhStop (again : Bool)
  /-- R148. A START or STOP inside a byte ends the transfer. -/
  | twhBusError (again : Bool)
  /-- R149. SCL stays low for 25 ms while the target drives SDA, so SDA is released. -/
  | twhSdaTimeout
  /-- R145. A write to a register or address that has no row of its own passes through the aperture or system port. -/
  | apertureWrite (a w : Word)(be : BitVec 4)
  /-- R145. An aperture write completes through the system port. -/
  | apertureWriteComplete (hit : Bool)(e : Ecc)
  /-- R165. Writing the PARAM selector selects the PARAM word that is read. -/
  | paramSelect (b : Byte)
  /-- R167. A write to PAGE sets the aperture base. -/
  | pageWrite (w : Word)(be : BitVec 4)
  /-- R179. A W1C write through EVT_GROUP or EVT.LATCH_g clears event latches. -/
  | evtGroupClear (g : Option (Fin 64))(mask again : Word)
  /-- R169. 0xA5 written to DOORBELL submits the mailbox block. -/
  | doorbell (b : Byte)
  /-- R171. The steward takes the next mailbox block in rotation, then validates it and commits or rejects it. -/
  | stewardTakeBlock
  /-- R173. A block's perform phase ends and the block commits or fails. -/
  | performDone (src : Source) (res : List PerfRes)
  /-- R173. A perform phase exceeds 10,000 ms and the block fails with TIMEOUT. -/
  | performTimeout (src : Source) (idx : Fin 15)
  /-- R241. CFG writes an 8-bit immediate to a configuration field. -/
  | cfg (src : Source) (blk : BitVec 6) (fid : BitVec 12) (v : Byte)
  /-- R241. CFGL writes a literal or register value to a configuration field. -/
  | cfgl (src : Source) (blk : BitVec 6) (fid : BitVec 12) (v : Word) (reg : Option (Fin 32))
  /-- R177. A source claims a block or unit. -/
  | claim (src : Source) (blk : BitVec 6) (u : BitVec 16)
  /-- R177. A source gives up a claim. -/
  | release (src : Source) (blk : BitVec 6) (u : BitVec 16)
  /-- R204. LOAD validates a lane image, checks it in its perform phase and copies it at commit. -/
  | load (src : Source) (dst : BitVec 20) (a : Word)
  /-- R204. The commit copy of LOAD completes and the block's response is written. -/
  | loadCopyDone (src : Source)
  /-- R244. CSTART binds a code region and data window to a context, which starts at the next tick. -/
  | cstart (src : Source) (ctx : Fin 1024) (rec : Word)
  /-- R245. CSTOP makes a context STOPPED at the next tick. -/
  | cstop (src : Source) (ctx : Fin 1024)
  /-- R245. CSTOP with release makes a context FREE at the next tick. -/
  | cstopRelease (src : Source) (ctx : Fin 1024)
  /-- R246. The endpoint is made the stream's one writer. -/
  | routeWriter (src : Source) (kind : BitVec 4) (idx : BitVec 10) (n : Fin 1024)
  /-- R246. The endpoint is added as a reader of the stream. -/
  | routeReader (src : Source) (kind : BitVec 4) (idx : BitVec 10) (n : Fin 1024)
  /-- R246. A reader is removed from the stream. -/
  | routeUnread (src : Source) (kind : BitVec 4) (idx : BitVec 10) (n : Fin 1024)
  /-- R246. The stream's writer and every reader are removed. -/
  | routeFree (src : Source) (n : Fin 1024)
  /-- R247. The power state of RAM bank quarters is set. -/
  | bankpwr (src : Source) (u : BitVec 5) (mask : BitVec 4) (st : BankPower)
  /-- R273. A bank quarter finishes changing its power state. -/
  | bankTransitionDone (u : Fin 21) (q : Fin 4)
  /-- R111. One block is reset, wrapped or quiesce-first. -/
  | breset (src : Source) (blk : BitVec 6) (u : BitVec 16)
  /-- R111. BRESET naming RST starts a quiet stop ending in a SOFT reset. -/
  | bresetRst (src : Source) (u : BitVec 16)
  /-- R123. DEVELOP is sealed after a slot check, ending in reset. -/
  | lcyreqSeal (src : Source)
  /-- R123. The hash of the customer release token is stored in SEALED. -/
  | lcyreqWriteToken (src : Source) (token : BitVec 64)
  /-- R124. One fuse map word is written in FAB or DEVELOP. -/
  | lcyreqFuseWrite (src : Source) (idx : BitVec 12) (v : Word)
  /-- R123. A transition to VOID is requested with the confirm word. -/
  | lcyreqVoid (src : Source) (confirm : Word)
  /-- R505. After the quiet stop and any erase, the new state is written and reset is asserted. -/
  | transitionReset
  /-- R415. SAR self-calibration measures offset and gain corrections. -/
  | calrunSarCal (src : Source) (force : Bool) (u : BitVec 16)
  /-- R407. The background averaging history of a pipeline converter is cleared. -/
  | calrunPipeAvg (src : Source) (force : Bool) (u : BitVec 16)
  /-- R401. The residual offset of an audio ADC is measured. -/
  | calrunAadcOffset (src : Source) (force : Bool) (u : BitVec 16)
  /-- R402. An audio ADC self-test with an internal test signal is run. -/
  | calrunAadcSelftest (src : Source) (force : Bool) (u : BitVec 16)
  /-- R381. The microphone array is calibrated with a speaker chirp. -/
  | calrunMicArray (src : Source) (force : Bool) (u : BitVec 16)
  /-- R150. A two-wire controller transfer starts. -/
  | twcStart (src : Source)
  /-- R152. A two-wire bus clear is run on request. -/
  | twcClear (src : Source)
  /-- R151. The controller, having waited, finds the bus free and issues START. -/
  | twcBusFree
  /-- R153. An SDA mismatch loses arbitration and the transfer is retried. -/
  | twcArbLost
  /-- R151. A stuck, held or busy bus times out, giving a bus clear or a failed transfer. -/
  | twcBusTimeout (sclLow sdaLow : Bool)
  /-- R154. A target holds SCL low longer than TIMEOUT, ending the transfer. -/
  | twcStretchTimeout
  /-- R155. A controller transfer ends with its RESULT and TWC_DONE or TWC_FAIL. -/
  | twcTransferDone (nak : Option Nat)(rd : List Byte)(es : List Ecc)
  /-- R116. CFG of RST.WDOG_KICK with 0x5A restarts the watchdog count. -/
  | wdogKick (src : Source) (v : Byte)
  /-- R264. CFG of LANE.FAULT_INJECT declares a lane fault with TRIGGER INJECTED. -/
  | laneFaultInject (src : Source) (v : Byte)
  /-- R214. No operation. -/
  | nop (who : Agent)
  /-- R214. Saturating Q1.31 add. -/
  | add (who : Agent) (vd vs vt : Fin 32)
  /-- R214. Saturating Q1.31 subtract. -/
  | sub (who : Agent) (vd vs vt : Fin 32)
  /-- R214. Integer add modulo 2^32. -/
  | addw (who : Agent) (vd vs vt : Fin 32)
  /-- R214. Integer subtract modulo 2^32. -/
  | subw (who : Agent) (vd vs vt : Fin 32)
  /-- R214. Saturating negate. -/
  | neg (who : Agent) (vd vs : Fin 32)
  /-- R214. Saturating absolute value. -/
  | abs (who : Agent) (vd vs : Fin 32)
  /-- R214. Signed minimum. -/
  | min (who : Agent) (vd vs vt : Fin 32)
  /-- R214. Signed maximum. -/
  | max (who : Agent) (vd vs vt : Fin 32)
  /-- R214. Rounded Q1.31 multiply. -/
  | mul (who : Agent) (vd vs vt : Fin 32)
  /-- R214. Integer multiply modulo 2^32. -/
  | muli (who : Agent) (vd vs vt : Fin 32)
  /-- R214. Bitwise AND. -/
  | and (who : Agent) (vd vs vt : Fin 32)
  /-- R214. Bitwise OR. -/
  | or (who : Agent) (vd vs vt : Fin 32)
  /-- R214. Bitwise XOR. -/
  | xor (who : Agent) (vd vs vt : Fin 32)
  /-- R214. Bitwise NOT. -/
  | not (who : Agent) (vd vs : Fin 32)
  /-- R214. Logical shift left. -/
  | shl (who : Agent) (vd vs : Fin 32) (sub : Fin 32)
  /-- R214. Logical shift right. -/
  | shr (who : Agent) (vd vs : Fin 32) (sub : Fin 32)
  /-- R214. Arithmetic shift right. -/
  | sar (who : Agent) (vd vs : Fin 32) (sub : Fin 32)
  /-- R214. Saturating shift left. -/
  | shls (who : Agent) (vd vs : Fin 32) (sub : Fin 32)
  /-- R214. Shift by a signed register amount, saturating. -/
  | ash (who : Agent) (vd vs vt : Fin 32)
  /-- R214. Clamp to plus or minus a magnitude without setting SAT. -/
  | clip (who : Agent) (vd vs vt : Fin 32)
  /-- R214. Round to n bits. -/
  | qnt (who : Agent) (vd vs : Fin 32) (sub : Fin 32)
  /-- R214. Count the redundant sign bits. -/
  | norm (who : Agent) (vd vs : Fin 32)
  /-- R214. Clear CSW.SAT. -/
  | satclr (who : Agent)
  /-- R214. Read CSW.SAT into a register. -/
  | satget (who : Agent) (vd : Fin 32)
  /-- R215. Binary32 add. -/
  | fadd (who : Agent) (vd vs vt : Fin 32)
  /-- R215. Binary32 subtract. -/
  | fsub (who : Agent) (vd vs vt : Fin 32)
  /-- R215. Binary32 multiply. -/
  | fmul (who : Agent) (vd vs vt : Fin 32)
  /-- R215. Binary32 fused multiply-add. -/
  | fmac (who : Agent) (vd vs vt : Fin 32)
  /-- R215. Binary32 divide in 8 cycles. -/
  | fdiv (who : Agent) (vd vs vt : Fin 32)
  /-- R215. Binary32 square root in 8 cycles. -/
  | fsqrt (who : Agent) (vd vs : Fin 32)
  /-- R215. Binary32 minimum. -/
  | fmin (who : Agent) (vd vs vt : Fin 32)
  /-- R215. Binary32 maximum. -/
  | fmax (who : Agent) (vd vs vt : Fin 32)
  /-- R215. Clear the sign bit. -/
  | fabs (who : Agent) (vd vs : Fin 32)
  /-- R215. Invert the sign bit. -/
  | fneg (who : Agent) (vd vs : Fin 32)
  /-- R215. Convert binary32 to Q1.31, saturating. -/
  | ftoq (who : Agent) (vd vs : Fin 32) (sub : Fin 32)
  /-- R215. Convert Q1.31 to binary32. -/
  | qtof (who : Agent) (vd vs : Fin 32) (sub : Fin 32)
  /-- R215. Convert binary32 to int32. -/
  | ftoi (who : Agent) (vd vs : Fin 32)
  /-- R215. Convert int32 to binary32. -/
  | itof (who : Agent) (vd vs : Fin 32)
  /-- R222. Compare into a predicate with COMB. -/
  | cmp (who : Agent) (qd : Fin 4) (vs vt : Fin 32) (cc : BitVec 4) (f z : Bool) (comb : BitVec 2)
  /-- R223. Set a predicate to an immediate. -/
  | qset (who : Agent) (qd : Fin 4) (imm : Bool)
  /-- R223. AND two predicates. -/
  | qand (who : Agent) (qd qs qt : Fin 4)
  /-- R223. OR two predicates. -/
  | qor (who : Agent) (qd qs qt : Fin 4)
  /-- R223. XOR two predicates. -/
  | qxor (who : Agent) (qd qs qt : Fin 4)
  /-- R223. AND with the complement of a predicate. -/
  | qandn (who : Agent) (qd qs qt : Fin 4)
  /-- R223. Invert a predicate. -/
  | qnot (who : Agent) (qd qs : Fin 4)
  /-- R223. Copy a predicate into a value register. -/
  | qtov (who : Agent) (v : Fin 32) (qs : Fin 4)
  /-- R223. Set a predicate from a non-zero value register. -/
  | vtoq (who : Agent) (qd : Fin 4) (v : Fin 32)
  /-- R216. Register move. -/
  | mov (who : Agent) (vd vs : Fin 32)
  /-- R216. Select between two registers by a predicate. -/
  | sel (who : Agent) (vd vs vt : Fin 32) (q : Fin 4)
  /-- R216. Read a pointer's ADDR. -/
  | pget (who : Agent) (vd : Fin 32) (p : Fin 8)
  /-- R216. Read a pointer's START. -/
  | pgets (who : Agent) (vd : Fin 32) (p : Fin 8)
  /-- R216. Read the iterations left in a loop counter. -/
  | lcget (who : Agent) (vd : Fin 32) (k : Fin 2)
  /-- R216. Pack two upper halves into one word. -/
  | pack (who : Agent) (vd vs vt : Fin 32)
  /-- R216. Add a sign-extended immediate. -/
  | addi (who : Agent) (vd vs : Fin 32) (imm : BitVec 16)
  /-- R216. Load a sign-extended immediate. -/
  | movi (who : Agent) (vd : Fin 32) (imm : BitVec 16)
  /-- R216. Load the upper half of a register. -/
  | movhi (who : Agent) (vd : Fin 32) (imm : BitVec 16)
  /-- R217. Single or dual multiply-accumulate. -/
  | mac (who : Agent) (ad : Fin 4) (vs vt vu vw : Fin 32) (clr neg1 neg2 single : Bool)
  /-- R218. Dual multiply-accumulate from memory through two pointers. -/
  | macp (who : Agent) (ad : Fin 4) (pj pk : Fin 8) (clr neg : Bool) (es : List Ecc)
  /-- R219. Round an accumulator to a register. -/
  | rnd (who : Agent) (vd : Fin 32) (k : Fin 4)
  /-- R219. Shift and round an accumulator to a register. -/
  | rndsh (who : Agent) (vd : Fin 32) (k : Fin 4) (sh : Fin 16)
  /-- R219. Clear an accumulator. -/
  | aclr (who : Agent) (k : Fin 4)
  /-- R219. Load an accumulator from a register. -/
  | ald (who : Agent) (k : Fin 4) (vs : Fin 32)
  /-- R219. Add a register to an accumulator. -/
  | aadd (who : Agent) (k : Fin 4) (vs : Fin 32)
  /-- R219. Copy one accumulator to another. -/
  | amov (who : Agent) (k j : Fin 4)
  /-- R220. One direct-form-I biquad section step. -/
  | bq (who : Agent) (vd vs : Fin 32) (pc ps : Fin 8) (es : List Ecc) (hits : List Bool)
  /-- R221. Complex radix-2 butterfly. -/
  | bfly (who : Agent) (vd vs vt : Fin 32) (sh : Bool)
  /-- R224. Load through a pointer with post-modify. -/
  | ld (who : Agent) (vd : Fin 32) (pk : Fin 8) (size : BitVec 2) (inc : BitVec 16) (es : List Ecc)
  /-- R224. Store through a pointer with post-modify. -/
  | st (who : Agent) (vd : Fin 32) (pk : Fin 8) (size : BitVec 2) (inc : BitVec 16) (es : List Ecc) (hits : List Bool)
  /-- R226. Set a pointer's ADDR. -/
  | pseta (who : Agent) (pk : Fin 8) (vs : Fin 32) (imm : BitVec 16)
  /-- R226. Set a pointer's modulo START. -/
  | psets (who : Agent) (pk : Fin 8) (vs : Fin 32) (imm : BitVec 16)
  /-- R226. Set a pointer's modulo LEN. -/
  | psetl (who : Agent) (pk : Fin 8) (imm : BitVec 16)
  /-- R226. Post-modify a pointer. -/
  | pstep (who : Agent) (pk : Fin 8) (imm : BitVec 16)
  /-- R227. Start a hardware loop. -/
  | loop (who : Agent) (reg : Option (Fin 32)) (count : BitVec 10) (last : BitVec 14)
  /-- R228. Break out of the innermost hardware loop. -/
  | lbrk (who : Agent)
  /-- R233. Read a stream frame into memory. -/
  | srd (who : Agent) (pk : Fin 8) (vh : Fin 32) (hoff : BitVec 10)
  /-- R233. Write a stream frame from memory. -/
  | swr (who : Agent) (pk : Fin 8) (vh : Fin 32) (hoff : BitVec 10) (es : List Ecc)
  /-- R233. Read one stream sample. -/
  | sget (who : Agent) (vd vp vh : Fin 32) (hoff : BitVec 10)
  /-- R233. Write one stream sample. -/
  | sput (who : Agent) (vd vp vh : Fin 32) (hoff : BitVec 10)
  /-- R234. Mark a member's Brine send as issued for the frame. -/
  | bsend (who : Agent) (vh : Fin 32) (hoff : BitVec 10)
  /-- R236. Latch the context's own event. -/
  | evt (who : Agent)
  /-- R195. End the context's frame and take its snapshot. -/
  | waitf (who : Agent)
  /-- R196. End the turn and move the context to the tail of the run list. -/
  | yield (who : Agent)
  /-- R236. Unconditional branch. -/
  | br (who : Agent) (target : BitVec 17)
  /-- R236. Branch if the predicate is true. -/
  | brt (who : Agent) (q : Fin 4) (target : BitVec 17)
  /-- R236. Branch if the predicate is false. -/
  | brf (who : Agent) (q : Fin 4) (target : BitVec 17)
  /-- R236. Branch and save the return address in v30. -/
  | call (who : Agent) (target : BitVec 17)
  /-- R236. Jump to a register address. -/
  | jmpr (who : Agent) (vs : Fin 32)
  /-- R237. The steward meets a lane-only opcode or an invalid word and halts with ILLEGAL. -/
  | illegalStewardWord
  /-- R254. A lane fault is detected and the physical lane is isolated. -/
  | laneFault (phys : Fin 17) (t : Trigger) (addr : Word) (slot : Fin 64) (found : LaneError)
  /-- R252. A lane issues no instruction for 4,096 cycles while it has work. -/
  | laneWatchdog (phys : Fin 17) (same : Bool)
  /-- R253. A lane self-check pass ends and its signature is compared with the reference. -/
  | selfCheckPass (phys : Fin 17) (ok same : Bool)
  /-- R253. A lane completes no self-check pass in 64 frames. -/
  | scStarved (phys : Fin 17)
  /-- R277. The RAM scrubber reads a word and writes back a correction. -/
  | ramScrubAccess (a : Word) (found : RamFind)
  /-- R279. The Glacier controller programs the queued words of one row. -/
  | glacierRowProgram
  /-- R283. The Glacier scrubber reads a word, corrects it, and ends the pass at the end of the store. -/
  | glacierScrubRead (found : GlFind)
  /-- R308. A slave port sees the FS edge that starts slot 0 and checks its BCLK count. -/
  | spFsEdge (port : Fin 4) (bclks : BitVec 11) (inRate : Bool)
  /-- R308. A slave port misses BCLK or FS, or has four framing errors, and enters LOST. -/
  | spLost (port : Fin 4) (noBclk : Bool)
  /-- R322. USB_VBUS stays above 4.10 V for 100 µs. -/
  | vbusValid
  /-- R339. USB_VBUS stays below 3.60 V for 100 µs and the device detaches. -/
  | vbusLost
  /-- R322. With VUSB in regulation, the D+ pull-up turns on. -/
  | usbAttach
  /-- R323. A descriptor is served from the built descriptor copy. -/
  | getDescriptor (k : DescKind)
  /-- R328. The host sets an alternate setting, effective at the next tick. -/
  | setInterface (inDir : Bool) (alt : Byte)
  /-- R328. The host sets the USB sampling rate, effective at the next tick. -/
  | setCurSamFreq (hz : Word)
  /-- R328. The host sets feature-unit mute or volume. -/
  | setCurMuteVolume (inDir : Bool) (mute : Option Bool) (vol : Option Int)
  /-- R329. The host writes HID output report 1. -/
  | setReport (b : Byte)
  /-- R329. An HID input report is sent in its interval. -/
  | hidReport (ack : Bool)
  /-- R321. The device enters a USB test mode. -/
  | setFeatureTestMode (m : Fin 8)
  /-- R326. An isochronous OUT packet is received into the OUT packet ring. -/
  | usbIsoOutPacket (r : IsoResult) (periods : List (List Word))
  /-- R327. The feedback value is recomputed every 1 ms. -/
  | usbFeedbackUpdate
  /-- R330. The vendor SUBMIT request places a block in the USB mailbox. -/
  | usbSubmit (data : List Byte)
  /-- R330. The vendor RESPONSE request returns the USB source's response word. -/
  | usbResponse
  /-- R330. The vendor SET_ADDR request sets the USB access address. -/
  | usbSetAddr (a : Word)
  /-- R330. The vendor READ request reads words through the system port. -/
  | usbRead (len : BitVec 16) (es : List Ecc)
  /-- R330. The vendor WRITE request writes words through the system port. -/
  | usbWrite (data : List Byte) (hits : List Bool)
  /-- R330. The vendor DIGEST request returns EVT.DIGEST. -/
  | usbDigest
  /-- R331. The device enters DFU mode and re-attaches with DFU descriptors. -/
  | dfuDetach
  /-- R331. A DFU block is written into the Glacier slot or the staging area. -/
  | dfuDnload (b : List Byte)
  /-- R331. Manifestation checks the downloaded image. -/
  | dfuManifest
  /-- R332. dfuERROR is cleared back to dfuIDLE. -/
  | dfuClrstatus
  /-- R333. A USB bus reset returns the device to its default state and ends the USB claims. -/
  | usbBusReset (hs : Bool)
  /-- R334. 3 ms of bus idle suspends the device. -/
  | usbSuspend
  /-- R334. A resume ends at its EOP. -/
  | usbResume
  /-- R335. An LPM L1 request is acknowledged or answered NYET. -/
  | usbLpmL1 (remoteWake : Bool)
  /-- R336. After 5 ms of suspend with a recorded reason, the device drives K. -/
  | usbRemoteWake
  /-- R336. The 2 ms device K drive ends. -/
  | remoteWakeDriveEnd
  /-- R337. A host resume K cancels or ends the device's remote-wake drive. -/
  | hostKDetected
  /-- R336. CFG of USB.WAKE_REQ records a SOFTWARE wake reason. -/
  | usbWakeReq (src : Source)
  /-- R349. The master originates a ring frame. -/
  | ringFrameOriginate
  /-- R347. A forwarder processes and forwards a passing ring frame. -/
  | ringFrameForward (f : Option RingFrame) (codeErrs : Nat)
  /-- R350. The master receives a returned frame and measures the loop delay. -/
  | ringFrameReturn (f : Option RingFrame) (loopSymbols codeErrs : Nat)
  /-- R353. An ACK control message is received. -/
  | ringAck
  /-- R357. A joining node's HELLO reaches the master. -/
  | hello
  /-- R357. ASSIGN gives a joining node its address and it enters TRAINED. -/
  | assign
  /-- R359. A leaving node's LEAVE reaches the master. -/
  | leave
  /-- R359. A node receives EJECT and closes its bypass. -/
  | eject
  /-- R353. A command-block word is reassembled into the ring mailbox. -/
  | cmdData
  /-- R353. A command-block response arrives at its source. -/
  | cmdResp
  /-- R353. A ring SET_ADDR sets the ring access address. -/
  | ringSetAddr
  /-- R353. A ring READ reads a word through the system port. -/
  | ringRead (e : Ecc)
  /-- R353. A ring WRITE writes a word through the system port. -/
  | ringWrite (hit : Bool)
  /-- R354. A RESULT reply arrives for a RING.SEND. -/
  | ringResult
  /-- R354. CFG of RING.SEND sends a ring message from a send record. -/
  | ringSend (src : Source) (a : Word)
  /-- R354. No reply arrives within CTRL_TIMEOUT and the send is retried or ends. -/
  | ringSendTimeout
  /-- R362. CFG of RING.CALL sends a call burst. -/
  | ringCall (src : Source)
  /-- R362. The ring call detector sees a call burst in LISTEN or STANDBY. -/
  | ringCallDetect
  /-- R356. A seeking node gains symbol lock, an SOF and a good CRC, and enters CHECK. -/
  | ringSymbolLock
  /-- R356. 240 clean frames move a node to WAIT. -/
  | ringCheckPassed
  /-- R357. A node in WAIT sees a JOIN frame, opens its bypass and becomes JOINING. -/
  | ringJoinWindow
  /-- R356. No ASSIGN arrives within 4 ms and the node returns to SEEK. -/
  | ringJoinTimeout
  /-- R359. A leaving node closes its bypass after 2 ms. -/
  | ringLeaveTimeout
  /-- R364. A node finds no due SOF or loses symbol lock. -/
  | ringLockLost
  /-- R364. Lock has not returned within 1 ms, so the bypass closes and the node seeks. -/
  | ringLockLostTimeout
  /-- R360. The master's 1 ms listen for another master ends. -/
  | ringMasterListen (found : Bool)
  /-- R360. 48 good returned frames with its own tag move the master to TRAINED. -/
  | ringMasterTrained
  /-- R365. A PRESENT bit is missing for 4 returned frames. -/
  | ringNodeLost (a : Fin 64)
  /-- R365. No SOF returns for 4 frames. -/
  | ringBroken
  /-- R365. The ring stays broken for 1 ms and the master returns to FORMING. -/
  | ringBrokenTimeout
  /-- R373. A PGA takes a 1 dB step at a zero crossing or after 0.5 ms. -/
  | pgaStep (x : Fin 4)
  /-- R377. 10 ms after a PDM clock start or change, the channel's samples are used. -/
  | pdmStartupMuteEnd (k : Fin 16)
  /-- R377. A PDM microphone holds one level for 10 ms. -/
  | pdmStuck (k : Fin 16)
  /-- R377. A stuck microphone has 10 ms of changing data and recovers. -/
  | pdmRecover (k : Fin 16)
  /-- R375. A microphone bias load reaches its 5 mA limit. -/
  | micBiasIlim (n : Fin 2)
  /-- R385. The voice detector judges a 10 ms block and may fire. -/
  | voiceBlock (levelA levelB : Int) (peakA peakB : Nat) (ps : List (Word × Word))
  /-- R386. PTT_N is low for its debounce time and the PTT wake fires. -/
  | pttWake (ps : List (Word × Word))
  /-- R494. PTT_N is high for its debounce time and PTT clears. -/
  | pttUp
  /-- R392. CFG of VAULT.REARM re-seals the vault. -/
  | vaultRearm (src : Source)
  /-- R392. OPEN_LIMIT seconds pass and the vault re-seals. -/
  | vaultOpenLimit
  /-- R393. CFGL of VAULT.EXPORT starts copying the open vault. -/
  | vaultExport (src : Source) (a : Word)
  /-- R393. The vault export copy completes. -/
  | vaultExportDone
  /-- R406. A pipeline converter completes an averaging window and CONVERGED sets. -/
  | pipeAvgWindow (k : Fin 6)
  /-- R408. A pipeline converter sits at a limit code for 4 conversions. -/
  | pipeOvr (k : Fin 6)
  /-- R410. The internal reference buffer settles 200 µs after enable. -/
  | sarRefrdy (n : Fin 2)
  /-- R411. A periodic SAR scan starts, or is skipped, on its grid. -/
  | sarScanStart (n : Fin 2)
  /-- R411. CFG of SARn.TRIGGER starts one scan. -/
  | sarTrigger (src : Source) (n : Fin 2)
  /-- R414. CFG of SARn.URGENT requests one pre-empting conversion. -/
  | sarUrgent (src : Source) (n : Fin 2) (inp : Byte)
  /-- R416. A sequence or urgent SAR conversion completes and its result is stored. -/
  | sarConversion (n : Fin 2) (v : BitVec 12) (vrefLow : Bool)
  /-- R413. SAR0 converts JACK_DET or the die temperature every 20 µs. -/
  | sarSystemConversion (code : BitVec 12) (mic : Bool)
  /-- R416. A read of SARn.QUEUE pops one entry. -/
  | sarQueuePop (n : Fin 2)
  /-- R436. Results read present for INS_DEBOUNCE, so detection starts. -/
  | jackInserted
  /-- R437. After 10 ms of bias, the plug type is set and JACK_IN is raised. -/
  | jackTypeDetect (mv : Nat)
  /-- R438. Removal is confirmed and the removal sequence starts. -/
  | jackRemovalConfirmed
  /-- R439. The removal sequence ends, the state becomes ABSENT and JACK_OUT is raised. -/
  | jackRemovalComplete
  /-- R441. A new headset button state is accepted after its debounce. -/
  | jackButton
  /-- R441. No input-1 result for 20 ms releases the button. -/
  | jackButtonStale
  /-- R426. The class-H pump is up and the headphone outputs drive. -/
  | hpStartComplete
  /-- R427. The class-H rail steps up for a lookahead peak or down after RAIL_HOLD. -/
  | hpRailStep (e : RailEvent)
  /-- R428. A headphone output reaches its current limit. -/
  | hpIlim
  /-- R425. A line output enters its current limit. -/
  | loutSc (x : Fin 2) (acts : Bool)
  /-- R425. The line-output limit acts for 500 ms and the output goes Hi-Z. -/
  | loutShutoff (x : Fin 2)
  /-- R430. An RDAC takes one queue entry per sample clock, or underruns. -/
  | rdacSample (x : Fin 2)
  /-- R430. CFGL of DAC.RDAC_PUSH_x appends a code to the RDAC queue. -/
  | rdacPush (src : Source) (x : Fin 2) (c : Word)
  /-- R445. A steward store to DAC.RDAC_DATA_x appends a code. -/
  | rdacDataStore (x : Fin 2) (w : Word)
  /-- R432. A tone's on, sweep or off period ends and it moves on or finishes. -/
  | tonePhaseEnd (k : Fin 8)
  /-- R452. A speaker channel's start sequence begins once PGOOD reads 1. -/
  | spkStart (x : Fin 2)
  /-- R452. At PWM edge 154 both half-bridges are released and the start window begins. -/
  | spkReleaseEdge (x : Fin 2)
  /-- R452. The start window ends cleanly and the channel enters RUNNING. -/
  | spkWindowEnd (x : Fin 2)
  /-- R453. A cycle-by-cycle comparator acts and the channel may shut down. -/
  | spkLimitHit (x : Fin 2) (gap : Nat)
  /-- R454. 100 ms after a shutdown, the start sequence begins again. -/
  | spkRetry (x : Fin 2)
  /-- R454. 1 s of RUNNING without a shutdown returns RETRIES to 0. -/
  | spkRetriesClear (x : Fin 2)
  /-- R454. CFG of SPK.RESTART_x restarts a LATCHED channel. -/
  | spkRestart (src : Source) (x : Fin 2)
  /-- R455. The stop ramp ends and the half-bridges turn off. -/
  | spkStopComplete (x : Fin 2)
  /-- R457. Mean output above 0.40 V for 300 ms latches the channel. -/
  | spkDcFault (x : Fin 2)
  /-- R458. Every 250 ms the pilot-tone impedance reading is taken. -/
  | spkImpedanceReading (x : Fin 2) (mag : BitVec 16) (snr : Byte)
  /-- R461. The stage sensor crosses its warning or over-temperature threshold. -/
  | spkThermal (t : Int)
  /-- R461. The stage cools below 115 °C and the channels restart. -/
  | spkOtpRestart
  /-- R472. 20 µs after enable, a Glint channel is RUNNING. -/
  | glintStartDone (c : Fin 2)
  /-- R472. A Glint channel's gates close and it enters OFF. -/
  | glintStopDone (c : Fin 2)
  /-- R471. Every 125 µs the duck detector is evaluated and may fire. -/
  | glintDuckEval (c : Fin 2) (env : Byte)
  /-- R471. The duck hold ends and the 50 ms release begins. -/
  | glintDuckHoldEnd (c : Fin 2)
  /-- R477. CFGL of GLINT.COEF_LOAD_c loads new filter coefficients with a crossfade. -/
  | glintCoefLoad (src : Source) (c : Fin 2) (a : Word)
  /-- R486. CFG of HALO.START restarts the sequence at page 0. -/
  | haloStart (src : Source)
  /-- R485. CFGL of HALO.LOAD_p writes a pattern page. -/
  | haloLoad (src : Source) (p : Fin 4) (a : Word)
  /-- R487. A lit sink stays below 0.10 V for 16 halo frames. -/
  | haloOpen (sink : Fin 24)
  /-- R490. CFGL of GPIO.SET sets OUT bits. -/
  | gpioSet (src : Source) (mask : Word)
  /-- R490. CFGL of GPIO.CLR clears OUT bits. -/
  | gpioClr (src : Source) (mask : Word)
  /-- R491. An enabled level change on a GPIO ball is detected. -/
  | gpioEdge (n : Fin 16) (high : Bool)
  /-- R492. A button press or release is accepted after its debounce. -/
  | btn (n : Fin 8) (pressed : Bool)
  /-- R74. The trim oscillator or PLL finishes steering to a valid reference, REF_STATE becomes locked and event REF_LOCKED is raised. -/
  | refLocked
  /-- R78. The main PLL's lock detector returns within 2 ms of a drop, and PLL_LOCK reads 1 again. -/
  | pllRelocked
  /-- R55. VKEEP comes within 0.1 V of VSUP − 0.05 V and PWR.STATUS.KEEP_CHARGED sets. -/
  | keepCharged
  /-- R64. VSPK leaves the 3 % band around its target and BOOST.STATUS.PGOOD clears. -/
  | boostPgoodLost
  /-- R152. A bus clear requested through TWC.CLEAR ends after up to nine pulses, with STOP and TWC_BUS_CLEAR, or with SDA still low. -/
  | twcBusClearDone (pulses : Fin 10)(freed : Bool)
  /-- R426. After HP.EN = 0 the 2 ms ramp to silence ends, the headphone outputs go Hi-Z and the class-H pump stops. -/
  | hpStopComplete
  /-- R378. A decimated microphone sample reaches full scale before the calibration gain, MIC.CLIP bit m sets and event MIC_CLIP is raised. -/
  | micClip (m : Fin 20)
  /-- R466. The clamp of a Glint channel acts on a sample, GLINT.STATUS.CLIP_c sets and event GLINT_CLIP is raised at most once per 1 ms. -/
  | glintClip (c : Fin 2)
  /-- R488. While a rebase aligns the grid, a lengthened halo frame starts at a moment that is not a tick. -/
  | haloRebaseFrameStart
  /-- R327. A USB start-of-frame packet arrives, feeding the feedback interval measure and, with CKMODE 0b10, the reference steering. -/
  | usbSof (cycles : Nat)
  /-- R326. The host's isochronous IN token takes the audio IN or feedback packet of the (micro)frame. -/
  | usbIsoInPacket (fb : Bool)
  /-- R342. The host's standard SET_ADDRESS request gives the device its address and USB.STATUS.STATE becomes ADDRESSED. -/
  | setAddress (a : Fin 128)
  /-- R343. The host's standard SET_CONFIGURATION request configures the device, STATE becomes CONFIGURED and event USB_HOSTSET is raised. -/
  | setConfiguration (n : Byte)
  /-- R336. The host sets or clears the DEVICE_REMOTE_WAKEUP feature, and USB.STATUS.RWAKE_ENABLED follows. -/
  | deviceRemoteWakeupFeature (on : Bool)
  deriving DecidableEq, Repr

end Sys2Proof
end

