-- ==== Sys2Proof/WellFormed.lean ====
section
/-! DEFINITION. The static operand rules of the commands (R210 to R227, R239): what a word of the instruction set must
meet whatever the state. Every other command has operands that hold only values its rule admits. -/

namespace Sys2Proof

/-- R221, R224: the register names the even one of a pair. -/
def pairWf (k : Fin 32) : Bool := k.val % 2 == 0

/-- R222, Table 10.7: CC is listed for F, COMB is not 0b11, and vt is 0 where Z = 1. -/
def cmpWf (vt : Fin 32) (cc : BitVec 4) (f z : Bool) (comb : BitVec 2) : Bool :=
  (if f then decide (cc.toNat ≤ 5) || cc == 8 else decide (cc.toNat ≤ 7)) && comb != 3 && (!z || vt == 0)

/-- The operand rules of one command. -/
def Instr.wf (i : Instr) : Bool :=
  match i with
  | .porRelease => true
  | .bor _ => true
  | .keepDomainLost => true
  | .rstNPulse _ _ => true
  | .rstNRelease => true
  | .resetHoldExpiry => true
  | .thermalReset _ => true
  | .thermalResetRelease => true
  | .thermalComparatorSample _ => true
  | .watchdogExpiry _ => true
  | .regulatorRetry => true
  | .pllLocked _ => true
  | .refAbsentTimeout => true
  | .internalResetRelease _ _ => true
  | .imageCheckComplete _ _ _ => true
  | .hostImageSubmit => true
  | .tick _ => true
  | .modeEntryAfterDrain => true
  | .regOutOfRegulation _ => true
  | .regBackInRegulation _ => true
  | .regFailTimeout _ => true
  | .vkeepCheckTimeout => true
  | .keepChargeDrop => true
  | .wakeSource _ => true
  | .wakeExit => true
  | .wakeTimerExpiry => true
  | .vsupSample _ => true
  | .sagStepRelease => true
  | .boostPgood => true
  | .boostOvp => true
  | .boostOvpRecovery => true
  | .boostSsTimeout => true
  | .boostIlim => true
  | .refMonitorPeriod _ => true
  | .refLost => true
  | .refRestored => true
  | .pllUnlock => true
  | .pllUnlockTimeout _ => true
  | .portSamplePeriod _ _ _ _ => true
  | .asrcLock _ => true
  | .asrcUnlock _ => true
  | .dbgDread _ _ => true
  | .dbgDwrite _ _ _ => true
  | .dbgRead _ _ _ => true
  | .dbgWrite _ _ _ _ => true
  | .debugShifterReset => true
  | .dbgHalt _ => true
  | .dbgResume _ => true
  | .dbgStep _ => true
  | .dbgReset _ => true
  | .challenge _ => true
  | .vendorSession _ => true
  | .returnRequest _ => true
  | .dbgVoid _ => true
  | .dbgAuthComplete => true
  | .authLockoutExpiry => true
  | .twhAddress _ _ _ => true
  | .twhPointerWrite _ => true
  | .twhWriteByte _ => true
  | .twhReadByte _ _ _ => true
  | .twhStop _ => true
  | .twhBusError _ => true
  | .twhSdaTimeout => true
  | .apertureWrite _ _ _ => true
  | .apertureWriteComplete _ _ => true
  | .paramSelect _ => true
  | .pageWrite _ _ => true
  | .evtGroupClear _ _ _ => true
  | .doorbell _ => true
  | .stewardTakeBlock => true
  | .performDone _ _ => true
  | .performTimeout _ _ => true
  | .cfg _ _ _ _ => true
  | .cfgl src _ _ _ reg => reg.isNone || src == .steward
  | .claim _ _ _ => true
  | .release _ _ _ => true
  | .load _ _ _ => true
  | .loadCopyDone _ => true
  | .cstart _ _ _ => true
  | .cstop _ _ => true
  | .cstopRelease _ _ => true
  | .routeWriter _ _ _ _ => true
  | .routeReader _ _ _ _ => true
  | .routeUnread _ _ _ _ => true
  | .routeFree _ _ => true
  | .bankpwr _ _ _ _ => true
  | .bankTransitionDone _ _ => true
  | .breset _ _ _ => true
  | .bresetRst _ _ => true
  | .lcyreqSeal _ => true
  | .lcyreqWriteToken _ _ => true
  | .lcyreqFuseWrite _ _ _ => true
  | .lcyreqVoid _ _ => true
  | .transitionReset => true
  | .calrunSarCal _ _ _ => true
  | .calrunPipeAvg _ _ _ => true
  | .calrunAadcOffset _ _ _ => true
  | .calrunAadcSelftest _ _ _ => true
  | .calrunMicArray _ _ _ => true
  | .twcStart _ => true
  | .twcClear _ => true
  | .twcBusFree => true
  | .twcArbLost => true
  | .twcBusTimeout _ _ => true
  | .twcStretchTimeout => true
  | .twcTransferDone _ _ _ => true
  | .wdogKick _ _ => true
  | .laneFaultInject _ _ => true
  | .nop _ => true
  | .add _ _ _ _ => true
  | .sub _ _ _ _ => true
  | .addw _ _ _ _ => true
  | .subw _ _ _ _ => true
  | .neg _ _ _ => true
  | .abs _ _ _ => true
  | .min _ _ _ _ => true
  | .max _ _ _ _ => true
  | .mul _ _ _ _ => true
  | .muli _ _ _ _ => true
  | .and _ _ _ _ => true
  | .or _ _ _ _ => true
  | .xor _ _ _ _ => true
  | .not _ _ _ => true
  | .shl _ _ _ _ => true
  | .shr _ _ _ _ => true
  | .sar _ _ _ _ => true
  | .shls _ _ _ _ => true
  | .ash _ _ _ _ => true
  | .clip _ _ _ _ => true
  | .qnt _ _ _ bits => bits != 0
  | .norm _ _ _ => true
  | .satclr _ => true
  | .satget _ _ => true
  | .fadd _ _ _ _ => true
  | .fsub _ _ _ _ => true
  | .fmul _ _ _ _ => true
  | .fmac _ _ _ _ => true
  | .fdiv _ _ _ _ => true
  | .fsqrt _ _ _ => true
  | .fmin _ _ _ _ => true
  | .fmax _ _ _ _ => true
  | .fabs _ _ _ => true
  | .fneg _ _ _ => true
  | .ftoq _ _ _ _ => true
  | .qtof _ _ _ _ => true
  | .ftoi _ _ _ => true
  | .itof _ _ _ => true
  | .cmp _ _ _ vt cc f z comb => cmpWf vt cc f z comb
  | .qset _ _ _ => true
  | .qand _ _ _ _ => true
  | .qor _ _ _ _ => true
  | .qxor _ _ _ _ => true
  | .qandn _ _ _ _ => true
  | .qnot _ _ _ => true
  | .qtov _ _ _ => true
  | .vtoq _ _ _ => true
  | .mov _ _ _ => true
  | .sel _ _ _ _ _ => true
  | .pget _ _ _ => true
  | .pgets _ _ _ => true
  | .lcget _ _ _ => true
  | .pack _ _ _ _ => true
  | .addi _ _ _ _ => true
  | .movi _ _ _ => true
  | .movhi _ _ _ => true
  | .mac _ _ _ _ vu vw _ _ neg2 single => !single || (vu == 0 && vw == 0 && !neg2)
  | .macp _ _ pj pk _ _ _ => pj != pk
  | .rnd _ _ _ => true
  | .rndsh _ _ _ _ => true
  | .aclr _ _ => true
  | .ald _ _ _ => true
  | .aadd _ _ _ => true
  | .amov _ _ _ => true
  | .bq _ _ _ pc ps _ _ => pc != ps
  | .bfly _ vd vs vt _ => pairWf vd && pairWf vs && pairWf vt && vd != vs
  | .ld _ vd _ size _ _ => size != 1 || pairWf vd
  | .st _ vd _ size _ _ _ => size != 1 || pairWf vd
  | .pseta _ _ _ _ => true
  | .psets _ _ _ _ => true
  | .psetl _ _ imm => imm.toNat % 4 == 0
  | .pstep _ _ _ => true
  | .loop _ reg count _ => reg.isSome || count != 0
  | .lbrk _ => true
  | .srd _ _ _ _ => true
  | .swr _ _ _ _ _ => true
  | .sget _ _ _ _ _ => true
  | .sput _ _ _ _ _ => true
  | .bsend _ _ _ => true
  | .evt _ => true
  | .waitf _ => true
  | .yield _ => true
  | .br _ _ => true
  | .brt _ _ _ => true
  | .brf _ _ _ => true
  | .call _ _ => true
  | .jmpr _ _ => true
  | .illegalStewardWord => true
  | .laneFault _ _ _ _ _ => true
  | .laneWatchdog _ _ => true
  | .selfCheckPass _ _ _ => true
  | .scStarved _ => true
  | .ramScrubAccess _ _ => true
  | .glacierRowProgram => true
  | .glacierScrubRead _ => true
  | .spFsEdge _ _ _ => true
  | .spLost _ _ => true
  | .vbusValid => true
  | .vbusLost => true
  | .usbAttach => true
  | .getDescriptor _ => true
  | .setInterface _ _ => true
  | .setCurSamFreq _ => true
  | .setCurMuteVolume _ _ _ => true
  | .setReport _ => true
  | .hidReport _ => true
  | .setFeatureTestMode _ => true
  | .usbIsoOutPacket _ _ => true
  | .usbFeedbackUpdate => true
  | .usbSubmit _ => true
  | .usbResponse => true
  | .usbSetAddr _ => true
  | .usbRead _ _ => true
  | .usbWrite _ _ => true
  | .usbDigest => true
  | .dfuDetach => true
  | .dfuDnload _ => true
  | .dfuManifest => true
  | .dfuClrstatus => true
  | .usbBusReset _ => true
  | .usbSuspend => true
  | .usbResume => true
  | .usbLpmL1 _ => true
  | .usbRemoteWake => true
  | .remoteWakeDriveEnd => true
  | .hostKDetected => true
  | .usbWakeReq _ => true
  | .ringFrameOriginate => true
  | .ringFrameForward _ _ => true
  | .ringFrameReturn _ _ _ => true
  | .ringAck => true
  | .hello => true
  | .assign => true
  | .leave => true
  | .eject => true
  | .cmdData => true
  | .cmdResp => true
  | .ringSetAddr => true
  | .ringRead _ => true
  | .ringWrite _ => true
  | .ringResult => true
  | .ringSend _ _ => true
  | .ringSendTimeout => true
  | .ringCall _ => true
  | .ringCallDetect => true
  | .ringSymbolLock => true
  | .ringCheckPassed => true
  | .ringJoinWindow => true
  | .ringJoinTimeout => true
  | .ringLeaveTimeout => true
  | .ringLockLost => true
  | .ringLockLostTimeout => true
  | .ringMasterListen _ => true
  | .ringMasterTrained => true
  | .ringNodeLost _ => true
  | .ringBroken => true
  | .ringBrokenTimeout => true
  | .pgaStep _ => true
  | .pdmStartupMuteEnd _ => true
  | .pdmStuck _ => true
  | .pdmRecover _ => true
  | .micBiasIlim _ => true
  | .voiceBlock _ _ _ _ _ => true
  | .pttWake _ => true
  | .pttUp => true
  | .vaultRearm _ => true
  | .vaultOpenLimit => true
  | .vaultExport _ _ => true
  | .vaultExportDone => true
  | .pipeAvgWindow _ => true
  | .pipeOvr _ => true
  | .sarRefrdy _ => true
  | .sarScanStart _ => true
  | .sarTrigger _ _ => true
  | .sarUrgent _ _ _ => true
  | .sarConversion _ _ _ => true
  | .sarSystemConversion _ _ => true
  | .sarQueuePop _ => true
  | .jackInserted => true
  | .jackTypeDetect _ => true
  | .jackRemovalConfirmed => true
  | .jackRemovalComplete => true
  | .jackButton => true
  | .jackButtonStale => true
  | .hpStartComplete => true
  | .hpRailStep _ => true
  | .hpIlim => true
  | .loutSc _ _ => true
  | .loutShutoff _ => true
  | .rdacSample _ => true
  | .rdacPush _ _ _ => true
  | .rdacDataStore _ _ => true
  | .tonePhaseEnd _ => true
  | .spkStart _ => true
  | .spkReleaseEdge _ => true
  | .spkWindowEnd _ => true
  | .spkLimitHit _ _ => true
  | .spkRetry _ => true
  | .spkRetriesClear _ => true
  | .spkRestart _ _ => true
  | .spkStopComplete _ => true
  | .spkDcFault _ => true
  | .spkImpedanceReading _ _ _ => true
  | .spkThermal _ => true
  | .spkOtpRestart => true
  | .glintStartDone _ => true
  | .glintStopDone _ => true
  | .glintDuckEval _ _ => true
  | .glintDuckHoldEnd _ => true
  | .glintCoefLoad _ _ _ => true
  | .haloStart _ => true
  | .haloLoad _ _ _ => true
  | .haloOpen _ => true
  | .gpioSet _ _ => true
  | .gpioClr _ _ => true
  | .gpioEdge _ _ => true
  | .btn _ _ => true
  | .refLocked => true
  | .pllRelocked => true
  | .keepCharged => true
  | .boostPgoodLost => true
  | .twcBusClearDone _ _ => true
  | .hpStopComplete => true
  | .micClip _ => true
  | .glintClip _ => true
  | .haloRebaseFrameStart => true
  | .usbSof _ => true
  | .usbIsoInPacket _ => true
  | .setAddress _ => true
  | .setConfiguration _ => true
  | .deviceRemoteWakeupFeature _ => true

end Sys2Proof
end

