-- ==== Sys2Proof/Machine/Flags.lean ====
section
/-! DEFINITION. The rounding and saturation of R189 and of the notation of chapter 10: every result carries whether it
clamped, which is what sets CSW.SAT. Values are exact integers at a stated scale. -/

namespace Sys2Proof.Machine

/-- satQ: an integer at scale 2^−31, clamped to Q1.31. -/
def satQ (x : Int) : Word × Bool :=
  if x < -(2 ^ 31) then (0x80000000, true)
  else if (2 : Int) ^ 31 ≤ x then (0x7FFFFFFF, true)
  else (BitVec.ofInt 32 x, false)

/-- satA: an integer at scale 2^−62, clamped to Q10.62. -/
def satA (x : Int) : BitVec 72 × Bool :=
  if x < -(2 ^ 71) then (BitVec.ofInt 72 (-(2 ^ 71)), true)
  else if (2 : Int) ^ 71 ≤ x then (BitVec.ofInt 72 (2 ^ 71 - 1), true)
  else (BitVec.ofInt 72 x, false)

/-- An integer at scale 2^−(31 + k), rounded to scale 2^−31 by adding half a unit and truncating toward −∞. -/
def rndBy (k : Nat) (x : Int) : Int := if k = 0 then x else (x + 2 ^ (k - 1)) / 2 ^ k

/-- rndQ of an integer at scale 2^−62 (R189). -/
def rndQ (x : Int) : Word × Bool := satQ (rndBy 31 x)

/-- The 6-bit two's complement count of ASH. -/
def ashCount (w : Word) : Int := (w.setWidth 6).toInt

/-- ASH (R214). -/
def ashR (x t : Word) : Word × Bool :=
  let k := ashCount t
  if 0 ≤ k then satQ (x.toInt * 2 ^ k.toNat) else (BitVec.ofInt 32 (x.toInt / 2 ^ (-k).toNat), false)

/-- CLIP (R214): never sets SAT. -/
def clipR (x t : Word) : Word :=
  let m : Int := min t.toInt.natAbs (2 ^ 31 - 1)
  BitVec.ofInt 32 (max (-m) (min m x.toInt))

/-- QNT (R214) to `n` bits. -/
def qntR (x : Word) (n : Nat) : Word × Bool :=
  let (y, c) := satQ (x.toInt + 2 ^ (31 - n))
  ((y >>> (32 - n)) <<< (32 - n), c)

/-- NORM (R214): how many bits below bit 31, from the top, equal it; `k` bits are still to be looked at. -/
def normR (x : Word) : Nat → Nat
  | 0 => 0
  | k + 1 => if x.getLsbD k == x.getLsbD 31 then normR x k + 1 else 0

/-- The half stored by ST of a Q1.15 value (R224). -/
def halfQ (x : Word) : BitVec 16 × Bool :=
  let (y, c) := satQ (x.toInt + 2 ^ 15)
  ((y >>> 16).setWidth 16, c)

/-- The binary condition of CMP on two words (Table 10.7, F = 0); no condition where the code is invalid. -/
def cmpInt (cc : Nat) (a b : Word) : Option Bool :=
  match cc with
  | 0 => some (a == b) | 1 => some (a != b)
  | 2 => some (a.slt b) | 3 => some (a.sle b) | 4 => some (b.slt a) | 5 => some (b.sle a)
  | 6 => some (a.ult b) | 7 => some (b.ule a)
  | _ => none

end Sys2Proof.Machine
end

