-- ==== Sys2Proof/Machine/Float.lean ====
section
/-! DEFINITION. R190: binary32 arithmetic by exact dyadic numbers and one rounding: to nearest, ties to even; subnormal
operands and results are zero of the same sign; every NaN result is 0x7FC0_0000. -/

namespace Sys2Proof.Machine

/-- A binary32 value: a NaN, an infinity, or `±m × 2^e` (with `m = 0` for the zeros). -/
inductive Fp where
  | nan
  | inf (neg : Bool)
  | fin (neg : Bool) (m : Nat) (e : Int)
  deriving DecidableEq, Repr

/-- The NaN of every NaN result (R190). -/
def fpNan : Word := 0x7FC00000

/-- A signed infinity. -/
def fpInf (neg : Bool) : Word := if neg then 0xFF800000 else 0x7F800000

/-- A signed zero. -/
def fpZero (neg : Bool) : Word := if neg then 0x80000000 else 0

/-- The value of a word; a subnormal operand is zero of the same sign. -/
def fpOf (w : Word) : Fp :=
  let neg := w.getLsbD 31
  let ex : Nat := (w.toNat / 2 ^ 23) % 256
  let fr : Nat := w.toNat % 2 ^ 23
  if ex = 255 then (if fr = 0 then .inf neg else .nan)
  else if ex = 0 then .fin neg 0 0
  else .fin neg (2 ^ 23 + fr) ((ex : Int) - 150)

/-- `m × 2^e` for `m ≠ 0` as an integer, where `e` may be negative: rounded to nearest, ties to even. -/
def rneShift (m : Nat) (e : Int) : Nat :=
  if 0 ≤ e then m * 2 ^ e.toNat
  else
    let d := 2 ^ (-e).toNat
    let q := m / d
    let r := m % d
    if d < 2 * r || (2 * r = d && q % 2 = 1) then q + 1 else q

/-- The word nearest to `±m × 2^e`: the IEEE result, then a subnormal result flushed (R190). -/
def fpRound (neg : Bool) (m : Nat) (e : Int) : Word :=
  if m = 0 then fpZero neg else
  let top : Int := (Nat.log2 m : Int) + e
  let q : Int := max (top - 23) (-149)
  let k := rneShift m (e - q)
  let (k, q) := if k = 2 ^ 24 then (2 ^ 23, q + 1) else (k, q)
  if k < 2 ^ 23 then fpZero neg
  else if 104 < q then fpInf neg
  else fpZero neg ||| BitVec.ofNat 32 ((q + 150).toNat * 2 ^ 23 + (k - 2 ^ 23))

/-- A signed integer times `2^e`; an exact zero takes the sign given. -/
def fpOfInt (x : Int) (e : Int) (zneg : Bool) : Word :=
  if x = 0 then fpZero zneg else fpRound (decide (x < 0)) x.natAbs e

/-- The signed integer `±m`. -/
def sgn (neg : Bool) (m : Nat) : Int := if neg then -(m : Int) else m

/-- The exact sum of two finite values, rounded. An exact zero is negative only when both operands are (R190). -/
def fpAddFin (n1 : Bool) (m1 : Nat) (e1 : Int) (n2 : Bool) (m2 : Nat) (e2 : Int) : Word :=
  let e := min e1 e2
  let x := sgn n1 m1 * 2 ^ (e1 - e).toNat + sgn n2 m2 * 2 ^ (e2 - e).toNat
  fpOfInt x e (n1 && n2)

/-- Addition of values. -/
def fpAddV (x y : Fp) : Word :=
  match x, y with
  | .nan, _ => fpNan
  | _, .nan => fpNan
  | .inf a, .inf b => if a = b then fpInf a else fpNan
  | .inf a, _ => fpInf a
  | _, .inf b => fpInf b
  | .fin n1 m1 e1, .fin n2 m2 e2 => fpAddFin n1 m1 e1 n2 m2 e2

/-- The exact product as a value. -/
def fpMulV (x y : Fp) : Fp :=
  match x, y with
  | .nan, _ => .nan
  | _, .nan => .nan
  | .inf a, .inf b => .inf (a != b)
  | .inf a, .fin b m _ => if m = 0 then .nan else .inf (a != b)
  | .fin a m _, .inf b => if m = 0 then .nan else .inf (a != b)
  | .fin a m1 e1, .fin b m2 e2 => .fin (a != b) (m1 * m2) (e1 + e2)

/-- A value as a word, rounded. -/
def fpWord : Fp → Word
  | .nan => fpNan
  | .inf n => fpInf n
  | .fin n m e => fpRound n m e

/-- A value with its sign inverted. -/
def fpNegV : Fp → Fp
  | .nan => .nan
  | .inf n => .inf !n
  | .fin n m e => .fin (!n) m e

/-- FADD (R215). -/
def fpAdd (a b : Word) : Word := fpAddV (fpOf a) (fpOf b)
/-- FSUB (R215). -/
def fpSub (a b : Word) : Word := fpAddV (fpOf a) (fpNegV (fpOf b))
/-- FMUL (R215). -/
def fpMul (a b : Word) : Word := fpWord (fpMulV (fpOf a) (fpOf b))
/-- FMAC (R215): one rounding. -/
def fpMac (c a b : Word) : Word := fpAddV (fpOf c) (fpMulV (fpOf a) (fpOf b))

/-- FDIV (R215): the quotient to 64 bits below the operands, with a sticky bit. -/
def fpDiv (a b : Word) : Word :=
  match fpOf a, fpOf b with
  | .nan, _ => fpNan
  | _, .nan => fpNan
  | .inf _, .inf _ => fpNan
  | .inf n, .fin n' _ _ => fpInf (n != n')
  | .fin n _ _, .inf n' => fpZero (n != n')
  | .fin n m e, .fin n' m' e' =>
    if m' = 0 then (if m = 0 then fpNan else fpInf (n != n'))
    else
      let x := m * 2 ^ 64
      fpRound (n != n') (2 * (x / m') + (if x % m' = 0 then 0 else 1)) (e - e' - 65)

/-- The integer square root, bit by bit from bit `k - 1` down. -/
def isqrt : Nat → Nat → Nat → Nat
  | 0, _, r => r
  | k + 1, x, r => if (r + 2 ^ k) * (r + 2 ^ k) ≤ x then isqrt k x (r + 2 ^ k) else isqrt k x r

/-- FSQRT (R215). -/
def fpSqrt (a : Word) : Word :=
  match fpOf a with
  | .nan => fpNan
  | .inf n => if n then fpNan else fpInf false
  | .fin n m e =>
    if m = 0 then fpZero n else if n then fpNan else
    let sh : Nat := if e % 2 = 0 then 60 else 61
    let x := m * 2 ^ sh
    let r := isqrt 64 x 0
    fpRound false (2 * r + (if r * r = x then 0 else 1)) ((e - sh) / 2 - 1)

/-- Less-than of two values that are no NaN. -/
def fpLt (x y : Fp) : Bool :=
  match x, y with
  | .nan, _ => false
  | _, .nan => false
  | .inf a, .inf b => a && !b
  | .inf a, .fin _ _ _ => a
  | .fin _ _ _, .inf b => !b
  | .fin n1 m1 e1, .fin n2 m2 e2 =>
    let e := min e1 e2
    decide (sgn n1 m1 * 2 ^ (e1 - e).toNat < sgn n2 m2 * 2 ^ (e2 - e).toNat)

/-- Equality of two values; the zeros are equal, a NaN equals nothing. -/
def fpEq (x y : Fp) : Bool := x != .nan && y != .nan && !fpLt x y && !fpLt y x

/-- The sign of a value. -/
def fpNeg? : Fp → Bool
  | .nan => false
  | .inf n => n
  | .fin n _ _ => n

/-- FMIN and FMAX (R215): −0 is below +0, a NaN gives the other operand. -/
def fpPick (wantMax : Bool) (a b : Word) : Word :=
  let x := fpOf a
  let y := fpOf b
  match x, y with
  | .nan, .nan => fpNan
  | .nan, y => fpWord y
  | x, .nan => fpWord x
  | x, y =>
    let lt := fpLt x y || (fpEq x y && fpNeg? x && !fpNeg? y)
    fpWord (if lt == wantMax then y else x)

/-- A value times `2^s` as an integer, to nearest, ties to even, saturating at the 32-bit limits; the flag says that it
clamped or was a NaN (R190, R215). -/
def fpToInt (x : Fp) (s : Int) : Word × Bool :=
  match x with
  | .nan => (0, true)
  | .inf n => (if n then 0x80000000 else 0x7FFFFFFF, true)
  | .fin n m e =>
    let k := sgn n (if m = 0 then 0 else rneShift m (e + s))
    if k < -(2 ^ 31) then (0x80000000, true)
    else if (2 : Int) ^ 31 ≤ k then (0x7FFFFFFF, true)
    else (BitVec.ofInt 32 k, false)

end Sys2Proof.Machine
end

