-- ==== Sys2Proof/Machine/State.lean ====
section
/-! DEFINITION. The state of the CM9440 as plain data: every register, FIFO, buffer, counter, mode and pin the
spec gives the block, grouped by the block that owns it, and the queue of commands that wait. Each field cites the
rule of spec/ it is read from; its default is its value in `State.reset`. INVENTORY.md lists them. -/

namespace Sys2Proof.Machine

/-- The steward-only instructions as a command block or the steward's program holds them (R239, R240). -/
inductive StwOp where
  | nop
  | load (dst src : Nat)
  /-- LOAD with the header fields read at validation: CODE_WORDS, ENTRY, DATA_MIN (R204, R243) -/
  | loadAt (dst src words entry dataMin : Nat)
  | cstart (ctx rec : Nat)
  /-- CSTART with the record read at validation (R244) -/
  | cstartAt (ctx code dbase dlen : Nat) (arg : Word)
  | cstop (ctx : Nat) (release : Bool)
  | route (role : RouteRole) (kind idx stream : Nat)
  | bankpwr (unit mask : Nat) (st : BankPower)
  | cfg (blk fid val : Nat)
  /-- CFG with the bytes that its action read at validation (R477, R485) -/
  | cfgAt (blk fid val : Nat) (data : List Byte)
  | claim (blk unit : Nat)
  | release (blk unit : Nat)
  | breset (blk unit : Nat)
  | seal
  | writeToken (token : BitVec 64)
  | fuseWrite (idx : Nat) (val : Word)
  | voidReq (confirm : Word)
  | calrun (kind : Nat) (force : Bool) (unit : Nat)
  deriving DecidableEq, Repr

/-- One committed change that waits for the next tick (R19, R21). -/
inductive FlowChange where
  /-- a configuration field, by key, and its value -/
  | field (key val : Nat)
  /-- ROUTE (R246) -/
  | route (role : RouteRole) (kind idx stream : Nat)
  /-- CSTART (R244): context, entry offset, code base, code words, data window base and length, argument -/
  | cstart (ctx entry code words dbase dlen : Nat) (arg : Word)
  /-- CSTOP, with or without release (R245) -/
  | cstop (ctx : Nat) (release : Bool)
  deriving DecidableEq, Repr

/-- The supply, its monitor and the power modes (03_power_and_regulators). -/
structure SupState where
  /-- R49: VSUP has passed POR release and not fallen below BOR. -/
  vsupUp : Bool := false
  /-- R54: keep-domain contents valid (VKEEP held at or above 1.10 V). -/
  keepOk : Bool := false
  /-- R70: PWR.STATUS.MODE_CUR. -/
  modeCur : PowerMode := .run
  /-- R284: mode whose entry waits for the Glacier queue to drain. -/
  drainWait : Option PowerMode := none
  /-- R65: wake sources fired while a mode entry was pending, or that began the exit to RUN. -/
  wakePend : BitVec 7 := 0
  /-- R57: exit to RUN in progress. -/
  waking : Bool := false
  /-- R70: PWR.WAKE_CAUSE.CAUSE. -/
  wakeCause : BitVec 7 := 0
  /-- R68: the keep-domain wake timer is counting. -/
  wakeTimerOn : Bool := false
  /-- R322: USB_VBUS is valid. -/
  vbus : Bool := false
  /-- R70: PWR.STATUS.VCORE_OK. -/
  vcoreOk : Bool := true
  /-- R70: PWR.STATUS.VANA_OK. -/
  vanaOk : Bool := true
  /-- R70: PWR.STATUS.VUSB_OK. -/
  vusbOk : Bool := false
  /-- R50: the USB charge pump is on. -/
  usbPump : Bool := false
  /-- R70: PWR.STATUS.KEEP_CHARGED. -/
  keepCharged : Bool := false
  /-- R70: PWR.STATUS.BOW. -/
  bow : Bool := false
  /-- R63: event BOW may be raised. -/
  bowArmed : Bool := true
  /-- R63: consecutive samples below BOW_LEVEL. -/
  bowLow : Nat := 0
  /-- R63: consecutive samples above BOW_LEVEL + 40 mV, for the 1 ms of R63. -/
  bowHigh : Nat := 0
  /-- R70: PWR.STATUS.SAG_STEP. -/
  sagStep : Nat := 0
  /-- R61: consecutive samples below SAG0 to SAG3. -/
  sagLow : Vector Nat 4 := Vector.replicate 4 0
  /-- R70: PWR.VSUPMON.MIN_MV. -/
  minMv : Nat := 0xFFF
  /-- R70: PWR.VSUPMON.NOW_MV. -/
  nowMv : Nat := 0
  deriving DecidableEq, Repr

/-- The speaker boost (03_power_and_regulators). -/
structure BoostState where
  /-- R64: idle, soft start, on, over-voltage stop, soft start failed. -/
  phase : BoostPhase := .idle
  /-- R70: BOOST.STATUS.VOUT_CUR. -/
  voutCur : Nat := 0
  /-- R67: VSPK discharges after the boost stopped switching. -/
  discharging : Bool := false
  /-- R66: PGOOD has been set since BOOST.EN was set. -/
  reached : Bool := false
  /-- R66: BOOST.STATUS.SS_FAIL. -/
  ssFail : Bool := false
  /-- R64: BOOST.STATUS.OVP. -/
  ovp : Bool := false
  /-- R70: thirds of a millisecond for which BOOST.STATUS.ILIM_ACT still reads 1. -/
  ilimLeft : Nat := 0
  /-- R64: BOOST.STATUS.PGOOD. -/
  pgood : Bool := false
  deriving DecidableEq, Repr

/-- The dual-clock queues and frame buffers of one port (R83). -/
structure PortQ where
  /-- R83: the port's queues are running. -/
  run : Bool := false
  /-- R83: the input queue, oldest sample period first. -/
  inQ : List (SMap Word) := []
  /-- R83: the output queue, oldest sample period first. -/
  outQ : List (SMap Word) := []
  /-- R83: sample periods taken from the input queue in the present frame. -/
  inBuf : List (SMap Word) := []
  /-- R83: positions of the present frame put into the output queue. -/
  outPos : Nat := 0
  /-- R83: the sample period the port engine took last, by channel. -/
  sent : SMap Word := []
  deriving DecidableEq, Repr

/-- Clocks, reference, queues and the frame (01_architecture, 04_clocks_and_domains). -/
structure ClkState where
  /-- R94: CLK.STATUS.PLL_LOCK. -/
  pllLock : Bool := false
  /-- R94: CLK.STATUS.REF_STATE. -/
  refState : RefState := .freeRun
  /-- R75: consecutive RC periods with a count out of range, or missing SOFs. -/
  refBad : Nat := 0
  /-- R76: consecutive valid RC periods while the reference is absent. -/
  refGood : Nat := 0
  /-- R77: no reference at boot: REF_LOST is owed once boot completes. -/
  refAbsent : Bool := false
  /-- R94: CLK.STATUS.MCLK_HALF. -/
  mclkHalf : Bool := false
  /-- R75: an MCLK frequency has been found. -/
  mclkFound : Bool := false
  /-- R75: what the last RC period's count was: 1 in the 24.576 MHz range, 2 in the 12.288 MHz range. -/
  mclkKind : BitVec 2 := 0
  /-- R94: CLK.ASRC_STATUS.LOST. -/
  asrcLost : BitVec 6 := 0
  /-- R87: tracking bank k has acquired lock. -/
  trackLock : BitVec 6 := 0
  /-- R94: CLK.SLIP_STATUS.SLIP. -/
  slip : BitVec 6 := 0
  /-- R94: CLK.SLIPCNT_k.IN_SLIP. -/
  slipIn : Vector Nat 6 := Vector.replicate 6 0
  /-- R94: CLK.SLIPCNT_k.OUT_SLIP. -/
  slipOut : Vector Nat 6 := Vector.replicate 6 0
  /-- R89: the present frame is the frame n that a timing change flushes: every port sends silence. -/
  flush : Bool := false
  /-- R29: CLK.FRAMECNT. -/
  frameCnt : Word := 0
  /-- R29: CLK.LAST_APPLY. -/
  lastApply : Word := 0
  /-- R83: queues of SP0 to SP3, USB and RING. -/
  ports : Vector PortQ 6 := Vector.replicate 6 {}
  deriving DecidableEq, Repr

/-- Reset, straps and bring-up (05_reset_and_bringup). -/
structure RstState where
  /-- R112: the blocks, by ID and unit, whose wrapped reset may still last, and whether it has answered a transfer with an
  error. -/
  resets : List (Nat × Nat × Bool) := []
  /-- R103: where bring-up stands. -/
  phase : BootPhase := .unpowered
  /-- R117: RST.BOOT_STATUS.STAGE. -/
  stage : Stage := .romStart
  /-- R99: cause captured by the keep domain at assertion. -/
  capCause : ResetCause := .none
  /-- R115: wake source captured with cause SHUTDOWN_WAKE. -/
  capWake : BitVec 7 := 0
  /-- R117: RST.CAUSE.CAUSE. -/
  cause : ResetCause := .none
  /-- R117: RST.CAUSE.WAKE_SRC. -/
  wakeSrc : BitVec 7 := 0
  /-- R117: RST.COUNT.RSTCOUNT. -/
  count : Nat := 0
  /-- R117: RST.KEEP.KEEP_LOST. -/
  keepLost : Bool := false
  /-- R117: RST.STRAPS.BOOT. -/
  boot : BitVec 2 := 0
  /-- R117: RST.STRAPS.CKMODE. -/
  ckmode : BitVec 2 := 0
  /-- R117: RST.BOOT_STATUS.LAST_ERR. -/
  lastErr : BitVec 8 := 0
  /-- R117: RST.BOOT_STATUS.ERR_SUB. -/
  errSub : BitVec 4 := 0
  /-- R117: RST.BOOT_STATUS.FALLBACK. -/
  fallback : Bool := false
  /-- R117: RST.BOOT_STATUS.SLOT. -/
  slot : Bool := false
  /-- R117: RST.BOOT_STATUS.PATH. -/
  path : BitVec 2 := 0
  /-- R98: RST_N is held low. -/
  rstnLow : Bool := false
  /-- R97: a thermal reset holds until the die is below 125 C. -/
  thermHold : Bool := false
  /-- R96: consecutive comparator samples above 140 C in STANDBY. -/
  thermRun : Nat := 0
  /-- R110: EEPROM header attempts made. -/
  attempts : Nat := 0
  /-- R110: control has passed to ENTRY since the last reset. -/
  handedOver : Bool := false
  /-- R118: BOOT_DONE has been raised since handover. -/
  bootDone : Bool := false
  /-- R118: BOOT_FALLBACK is owed after handover. -/
  fallbackDue : Bool := false
  /-- R114: KEEP_LOST is owed once boot completes. -/
  keepLostDue : Bool := false
  deriving DecidableEq, Repr

/-- The life cycle and the fuse map (06_life_cycle_and_debug). -/
structure LcyState where
  /-- R119: state code in the fuse map. -/
  code : Life := .develop
  /-- R119: the keep domain's life-cycle shadow, LCY.STATUS.STATE. -/
  shadow : Life := .develop
  /-- R124: pin-state fuse words 0x000-0x02E, POST_CODE in [6:4], RST_CODE in [2:0]. -/
  pinFuse : SMap (BitVec 7) := []
  /-- R124: customer boot key words 0x040-0x04F. -/
  keyWords : SMap Word := []
  /-- R124: key words written since the last erase. -/
  keyMask : BitVec 16 := 0
  /-- R124: the key words in force, as the last fuse map load read them. -/
  keyLoad : SMap Word := []
  /-- R124: which of them had been written then. -/
  keyLoadMask : BitVec 16 := 0
  /-- R124: FUSE_WRITE has written the pin-state section and its check word. -/
  pinWritten : Bool := false
  /-- R123: SHA-256 of the release token. -/
  tokenHash : Option (BitVec 256) := none
  /-- R132: LCY.STATUS.AUTH_FAILS. -/
  authFails : Nat := 0
  /-- R121: erase marker, with the state to be written. -/
  eraseMarker : Option Life := none
  /-- R132: LCY.STATUS.ERASE_RESUMED. -/
  eraseResumed : Bool := false
  /-- R505: quiet stop in progress. -/
  quiet : Option QuietKind := none
  deriving DecidableEq, Repr

/-- The debug port (06_life_cycle_and_debug). -/
structure DbgState where
  /-- R132: vendor session open. -/
  session : Bool := false
  /-- R128: steward halted by HALT. -/
  halted : Bool := false
  /-- R128: DBG_NONCE0-3, none when not fresh. -/
  nonce : Option (BitVec 128) := none
  /-- R133: DBG_ARG. -/
  arg : Word := 0
  /-- R133: DBG_TOKEN0-1. -/
  token : BitVec 64 := 0
  /-- R133: DBG_SIG0-15. -/
  sig : Vector Word 16 := Vector.replicate 16 0
  /-- R133: DBG_STATUS.FAULT_CODE. -/
  faultCode : BitVec 8 := 0
  /-- R129: the sub-reason of the failed check behind FAULT_CODE, which no register carries. -/
  faultSub : BitVec 4 := 0
  /-- R129: the signature check in progress will succeed. -/
  authOk : Bool := false
  /-- R129: signature check in progress. -/
  auth : Option AuthKind := none
  /-- R129: CHALLENGE fails with BUSY. -/
  lockout : Bool := false
  /-- R126: response nibble of the last frame. -/
  resp : BitVec 4 := 0
  /-- R126: read data of the last frame. -/
  rdata : Word := 0
  /-- R126: the CRC-8 that follows it. -/
  rcheck : Byte := 0
  /-- R125: bits of a frame not yet complete (every frame row is a whole frame). -/
  shifter : List Bool := []
  /-- R128: a halted steward may run one instruction. -/
  step : Bool := false
  deriving DecidableEq, Repr

/-- Ball states (02_balls_and_package). -/
structure PinState where
  /-- R37: pin-state shadow. -/
  shadow : SMap (BitVec 7) := []
  /-- R45: GPIO.PINFUSE_n.VALID. -/
  valid : Bool := false
  /-- R36: a fuse map load has completed since VSUP came up. -/
  loaded : Bool := false
  /-- R45: GPIO.PINFUSE_n.ASSIGNED. -/
  assigned : BitVec 47 := 0
  /-- R41: PINFUSE_BAD is owed after bring-up. -/
  badDue : Bool := false
  deriving DecidableEq, Repr

/-- The host two-wire target (07_two_wire_ports). -/
structure TwhState where
  /-- R141: TWH.STATUS.POINTER. -/
  pointer : BitVec 8 := 0
  /-- R161: TWH.STATUS.LAST_MATCH. -/
  lastMatch : Bool := false
  /-- R161: TWH.STATUS.ACTIVE. -/
  active : Bool := false
  /-- R142: the transfer in progress is a read. -/
  reading : Bool := false
  /-- R141: the next written byte is the pointer byte. -/
  wantPtr : Bool := false
  /-- R142: word snapshot: first offset, length in bytes, value. -/
  snap : Option (Nat × Nat × Nat) := none
  /-- R143: bytes of the word being written, with their offsets. -/
  part : List (Nat × Byte) := []
  /-- R138: comparator fields committed while the bus was busy. -/
  cmpPend : List (Nat × Nat) := []
  /-- R169: every later data byte of this transfer is NAKed (doorbell). -/
  deaf : Bool := false
  /-- R139: the steward is copying the mailbox. -/
  copying : Bool := false
  /-- R145: aperture write not yet completed: address, data, byte enables. -/
  aptWrite : Option (Word × Word × BitVec 4) := none
  /-- R161: TWH.STATUS.ADDR_NAK. -/
  addrNak : Bool := false
  /-- R161: TWH.STATUS.SDA_RELEASE. -/
  sdaRelease : Bool := false
  /-- R161: TWH.STATUS.COLLIDE. -/
  collide : Bool := false
  /-- R161: TWH.STATUS.APT_ERR. -/
  aptErr : Bool := false
  /-- R161: TWH.STATUS.LATE. -/
  late : Bool := false
  /-- R161: TWH.STATUS.BUS_ERR. -/
  busErr : Bool := false
  /-- R161: TWH.NAKCNT.ADDR_NAKS. -/
  addrNaks : Nat := 0
  /-- R161: TWH.NAKCNT.DATA_NAKS. -/
  dataNaks : Nat := 0
  /-- R140: whether the last byte was acknowledged by the target. -/
  ack : Bool := false
  /-- R142: the last byte shifted out. -/
  outByte : Byte := 0
  /-- R138: a transfer is in progress on the host bus, addressed to the target or not. -/
  busBusy : Bool := false
  deriving DecidableEq, Repr

/-- The two-wire controller (07_two_wire_ports). -/
structure TwcState where
  /-- R150: idle, waiting for the bus, transferring, clearing the bus. -/
  phase : TwcPhase := .idle
  /-- R161: TWC.STATUS.BYTES. -/
  bytes : Nat := 0
  /-- R161: TWC.STATUS.CLEAR_CLOCKS. -/
  clearClocks : Nat := 0
  /-- R161: TWC.STATUS.ARB_LOSSES. -/
  arbLosses : Nat := 0
  /-- R161: TWC.STATUS.SCL_LOW. -/
  sclLow : Bool := false
  /-- R161: TWC.STATUS.SDA_LOW. -/
  sdaLow : Bool := false
  /-- R161: TWC.STATUS.RESULT. -/
  result : TwcResult := .none
  /-- R153: restarts left to the transfer. -/
  retries : Nat := 0
  /-- R156: the next transfer begins with a bus clear. -/
  needClear : Bool := false
  /-- R152: the bus clear was requested through TWC.CLEAR. -/
  clearOnly : Bool := false
  /-- R150: the bytes, addresses among them, that the controller sent in the last transfer that ran to its end. -/
  sent : List Byte := []
  /-- R154: RESULT with which the transfer ends when its bus clear is over (none: it goes on). -/
  clearEnd : TwcResult := .none
  deriving DecidableEq, Repr

/-- A response word (08_host_window_commands_events, Table 08.9). -/
structure MbxState where
  /-- R183: BUSY. -/
  busy : Bool := false
  /-- R183: VALID. -/
  valid : Bool := false
  /-- R183: DB_LOST (host window only). -/
  dbLost : Bool := false
  /-- R183: TAG. -/
  tag : BitVec 8 := 0
  /-- R183: INDEX. -/
  index : Nat := 0
  /-- R183: SUB. -/
  sub : Nat := 0
  /-- R183: CODE. -/
  code : Nat := 0
  deriving DecidableEq, Repr

/-- The host window (08_host_window_commands_events). -/
structure WinState where
  /-- R164: PARAM selector. -/
  paramSel : Byte := 0
  /-- R164: EVT_GSEL. -/
  gsel : Nat := 0
  /-- R164: the 64 bytes of MAILBOX by offset, an unlisted one 0. -/
  mailbox : SMap Byte := []
  /-- R164: PAGE. -/
  page : Word := 0x40000000
  /-- R183: MBX_STATUS. -/
  mbx : MbxState := {}
  deriving DecidableEq, Repr

/-- Events (08_host_window_commands_events). -/
structure EvtState where
  /-- R179: EVT.LATCH_0 to EVT.LATCH_63. -/
  latch : BitVec 2048 := 0
  /-- R184: EVT.REPEAT. -/
  repeats : BitVec 64 := 0
  deriving DecidableEq, Repr

/-- A command block in its perform phase, or committed with a LOAD still being copied (R173, R204). -/
structure Job where
  /-- R173: the source of the block. -/
  src : Source := .host
  /-- R168: its TAG. -/
  tag : BitVec 8 := 0
  /-- R173: its words, each with its body index. -/
  ops : List (Nat × StwOp) := []
  /-- R333: its response is discarded. -/
  mute : Bool := false
  /-- R339: it is rejected at commit. -/
  dead : Bool := false
  /-- R204: the commit copies of its LOADs that are under way: destination, source address, length. -/
  copies : List (Nat × Nat × Nat) := []
  deriving DecidableEq, Repr

/-- Command blocks, claims and the mailboxes (08_host_window_commands_events). -/
structure CmdState where
  /-- R169: the host block accepted and not yet taken. -/
  hostBlk : Option (List Word) := none
  /-- R330: the USB mailbox. -/
  usbBlk : Option (List Word) := none
  /-- R353: the ring mailbox. -/
  ringBlk : Option (List Word) := none
  /-- R330: the USB source's response word. -/
  usbMbx : MbxState := {}
  /-- R353: the ring source's response word. -/
  ringMbx : MbxState := {}
  /-- R171: the mailbox served last in the rotation. -/
  last : MbxSource := .ring
  /-- R177: claims held: source, block, unit. -/
  claims : List (Source × Nat × Nat) := []
  /-- R185: CMD.CLAIM_STATUS.DROPPED. -/
  dropped : BitVec 2 := 0
  /-- R173: the blocks in their perform phase or copy, in the order they were taken in. -/
  jobs : List Job := []
  deriving DecidableEq, Repr

/-- A pointer p0 to p7 (Table 09.2). -/
structure Ptr where
  /-- R188: ADDR. -/
  addr : Word := 0
  /-- R188: START, the base of the modulo range. -/
  start : Word := 0
  /-- R188: LEN, 0 for none. -/
  len : BitVec 16 := 0
  deriving DecidableEq, Repr

/-- A hardware loop counter lc0 or lc1 (Table 09.2); in use while CSW.depth exceeds its number. -/
structure LoopCtr where
  /-- R188: iterations left, the current one counted. -/
  n : BitVec 16 := 0
  /-- R188: word offset of the loop's first instruction. -/
  start : Nat := 0
  /-- R188: word offset END of its last instruction. -/
  last : Nat := 0
  deriving DecidableEq, Repr

/-- The register set of a context or of the steward (Table 09.2). -/
structure RegSet where
  /-- R188: value registers v0 to v31. -/
  v : Vector Word 32 := Vector.replicate 32 0
  /-- R188: accumulators a0 to a3, Q10.62. -/
  a : Vector (BitVec 72) 4 := Vector.replicate 4 0
  /-- R188: pointers p0 to p7. -/
  p : Vector Ptr 8 := Vector.replicate 8 {}
  /-- R188: outer loop counter. -/
  lc0 : LoopCtr := {}
  /-- R188: inner loop counter. -/
  lc1 : LoopCtr := {}
  /-- R188: predicates q0 to q3. -/
  q : BitVec 4 := 0
  /-- R188, R237: word offset of the next instruction in the code region or the steward bank. -/
  pc : Nat := 0
  /-- R188: CSW.SAT. -/
  sat : Bool := false
  /-- R188: CSW loop depth, 0 to 2. -/
  depth : Nat := 0
  deriving DecidableEq, Repr

/-- A context (09_slaso_machine, 12_lane_sparing). -/
structure Ctx where
  /-- R194: LANE.CTX_STATE_n.STATE. -/
  st : CtxMode := .free
  /-- R192: first address of the bound code region. -/
  code : Nat := 0
  /-- R243: CODE_WORDS of the bound region. -/
  words : Nat := 0
  /-- R243: ENTRY of the bound region. -/
  entry : Nat := 0
  /-- R192: base of the data window. -/
  dbase : Nat := 0
  /-- R192: length of the data window in bytes. -/
  dlen : Nat := 0
  /-- R244: ARG of the last CSTART. -/
  arg : Word := 0
  /-- R188: the registers. -/
  regs : RegSet := {}
  /-- R195: the snapshot in force since the last tick. -/
  snap : RegSet := {}
  /-- R252: the snapshot formed by a WAITF in the present frame. -/
  form : Option RegSet := none
  /-- R232: the context was RUNNING from the last tick. -/
  ran : Bool := false
  /-- R208: CAUSE.COLD. -/
  cold : Bool := false
  /-- R208: CAUSE.FAULT. -/
  flt : Bool := false
  /-- R208: CAUSE.OVERRUN. -/
  ovr : Bool := false
  /-- R208: CAUSE.EVT. -/
  evt : Bool := false
  /-- R208: OVR_LAST. -/
  ovrLast : Bool := false
  /-- R199: overran in the present frame. -/
  ovrNow : Bool := false
  /-- R208: LANE.OVR_COUNT_n. -/
  ovrCount : Nat := 0
  /-- R208: LANE.FAULT_CODE_n. -/
  faultCode : Nat := 0
  /-- R197: cycles used in the present frame. -/
  used : Nat := 0
  deriving DecidableEq, Repr

/-- A verified code region made by LOAD (R204, R243). -/
structure Region where
  /-- R243: its first address. -/
  base : Nat := 0
  /-- R243: CODE_WORDS. -/
  words : Nat := 0
  /-- R243: ENTRY. -/
  entry : Nat := 0
  /-- R243: DATA_MIN. -/
  dataMin : Nat := 0
  deriving DecidableEq, Repr

/-- A lane fault of the present frame, decided at the tick that closes it (R254 to R259). -/
structure LaneFail where
  /-- R254: the logical lane. -/
  lane : Nat := 0
  /-- R252: what triggered it. -/
  trig : Trigger := .injected
  /-- R256: the failing word, for BANK_ECC. -/
  addr : Nat := 0
  /-- R252: the context whose snapshot failed, for SNAPSHOT_ECC. -/
  ctx : Option Nat := none
  /-- R259: LX takes the lane over; otherwise the lane is lost. -/
  spare : Bool := false
  /-- R262: faults detected in one core cycle have one number. -/
  cycle : Nat := 0
  deriving DecidableEq, Repr

/-- The lanes, their contexts and the reserve lane (09_slaso_machine, 12_lane_sparing). -/
structure LaneState where
  /-- R188: the 1,024 contexts by number, an unlisted one FREE with reset values. -/
  ctx : SMap Ctx := []
  /-- R193: the verified code regions. -/
  regions : List Region := []
  /-- R196: the run list of each logical lane. -/
  runList : Vector (List Nat) 16 := Vector.replicate 16 []
  /-- R197: bit L: the turn of the head of the run list has begun. -/
  turn : BitVec 16 := 0
  /-- R213: cycles each logical lane has used in the present frame. -/
  usedNow : Vector Nat 16 := Vector.replicate 16 0
  /-- R208: LANE.CYC_USED_L.CYCLES. -/
  cycUsed : Vector Nat 16 := Vector.replicate 16 0
  /-- R208: LANE.CYC_USED_L.OVERRUN_ANY. -/
  ovrAny : BitVec 16 := 0
  /-- R208: LANE.LAST_FAULT. -/
  lastFault : Word := 0
  /-- R208: LANE.STW_FAULT. -/
  stwFault : Word := 0
  /-- R208: LANE.LOAD_STATUS. -/
  loadStatus : Word := 0
  /-- R265: LANE.MAP.LX_STATE. -/
  lx : LxState := .spare
  /-- R265: LANE.MAP.LX_LANE. -/
  lxLane : Nat := 0
  /-- R265: LANE.MAP.ISOLATED. -/
  isolated : BitVec 16 := 0
  /-- R265: LANE.LOST. -/
  lost : BitVec 16 := 0
  /-- R265: LANE.SC_STARVED. -/
  starved : BitVec 17 := 0
  /-- R253: frames since each physical lane completed a self-check pass. -/
  scCount : Vector Nat 17 := Vector.replicate 17 0
  /-- R253: the physical lanes that have completed a self-check pass in the present frame. -/
  scDone : BitVec 17 := 0
  /-- R253: a frame of the lanes is open, so the next tick closes one. -/
  inFrame : Bool := false
  /-- R262: the commit in progress has injected a lane fault: further ones of it are of the same cycle. -/
  injecting : Bool := false
  /-- R265: LANE.FAULT_INFO. -/
  info : Word := 0
  /-- R265: LANE.FAULT_FRAME. -/
  faultFrame : Word := 0
  /-- R265: LANE.FAULT_ADDR. -/
  faultAddr : Word := 0
  /-- R265: LANE.ECC_CORR. -/
  eccCorr : Nat := 0
  /-- R254: lane faults of the present frame. -/
  fails : List LaneFail := []
  deriving DecidableEq, Repr

/-- The steward (09_slaso_machine, 11_slaso_stream_and_steward_instructions). -/
structure StwState where
  /-- R187: the steward's register set. -/
  regs : RegSet := {}
  /-- R202: halted by a fault. -/
  faulted : Bool := false
  /-- R107: in FAB, a test image that the debug port has loaded runs. -/
  test : Bool := false
  deriving DecidableEq, Repr

/-- The memory banks and the Glacier store (13_memory_banks). -/
structure MemState where
  /-- R22, 13 R267: every byte of Table 01.5's banks and of the Glacier store, an unlisted one 0. -/
  cells : SMap Byte := []
  /-- R272: BANKPWR state of quarter k of unit u, at key 4u + k, ON unless listed. -/
  power : SMap BankPower := []
  /-- R273: bit 4u + k: quarter k of unit u is changing state. -/
  transit : BitVec 84 := 0
  /-- R287: MEM.COLLIDE.COUNT. -/
  collide : Nat := 0
  /-- R287: MEM.ERR_ADDR. -/
  errAddr : Word := 0
  /-- R287: MEM.ECC.CORR. -/
  corr : Nat := 0
  /-- R287: MEM.ECC.UNCORR. -/
  uncorr : Nat := 0
  /-- R287: MEM.UNCORR_ADDR. -/
  uncorrAddr : Word := 0
  /-- R279: the Glacier write queue, oldest first: word address and value. -/
  glQueue : List (Nat × Word) := []
  /-- R287: MEM.GL_STATUS.WPROT_HIT. -/
  glWprotHit : Bool := false
  /-- R287: MEM.GL_ECC.CORR. -/
  glCorr : Nat := 0
  /-- R287: MEM.GL_ECC.UNCORR. -/
  glUncorr : Nat := 0
  /-- R287: MEM.GL_UNCORR_ADDR. -/
  glUncorrAddr : Word := 0
  /-- R282: Glacier words that hold an uncorrectable error. -/
  glBad : SMap Bool := []
  /-- R287: MEM.GL_SCRUB.POSITION. -/
  scrubPos : Nat := 0
  /-- R287: MEM.GL_SCRUB.PASSES. -/
  scrubPasses : Nat := 0
  /-- R301: Brine has overwritten its store: a word not written since reads as an open value. -/
  brineOpen : Bool := false
  /-- R286: SP0 to SP3, USB and RING: the port engine has used the port's regions of the port buffer bank: a word not written since reads as an open value. -/
  portUsed : BitVec 6 := 0
  /-- R301: Words of the Brine store and of the port regions written since their owner last used them. -/
  known : SMap Bool := []
  deriving DecidableEq, Repr

/-- A stream descriptor and its two frames of samples (14_streams_and_brine). -/
structure Stream where
  /-- R289: the writer: endpoint kind and index. -/
  writer : Option (Nat × Nat) := none
  /-- R289: the readers. -/
  readers : List (Nat × Nat) := []
  /-- R232: the writer's frame, by sample position. -/
  wbuf : SMap Word := []
  /-- R232: the frame that readers see. -/
  rbuf : SMap Word := []
  /-- R234: BSEND has been issued in the present frame. -/
  sent : Bool := false
  /-- R265: STRM.CONCEAL_n. -/
  conceal : Nat := 0
  /-- R303: BRINE.SATCNT_n. -/
  satCnt : Nat := 0
  deriving DecidableEq, Repr

/-- The streams and Brine (14_streams_and_brine). -/
structure StrmState where
  /-- R289: the 1,024 streams by number, an unlisted one unused. -/
  s : SMap Stream := []
  /-- R295: the STRM fields in force in the previous frame, by key. -/
  prev : SMap Nat := []
  /-- R303: BRINE.BUS_STATUS.SAT. -/
  busSat : BitVec 16 := 0
  deriving DecidableEq, Repr

/-- A serial audio port (15_serial_audio_ports). -/
structure SpState where
  /-- R318: SPn.STATUS.STATE. -/
  state : PortState := .off
  /-- R308: consecutive good sample periods while SEEKING, up to 8. -/
  good : Nat := 0
  /-- R308: an FS edge has been seen since the port began to seek, so the next one ends a sample period. -/
  edge : Bool := false
  /-- R315: a stopped master finishes the sample period in progress. -/
  finishing : Bool := false
  /-- R308: the port is LOST because BCLK stopped. -/
  noBclk : Bool := false
  /-- R308: consecutive framing errors, up to 4. -/
  errRun : Nat := 0
  /-- R318: SPn.STATUS.BCLK_PER_FS. -/
  bclkPerFs : Nat := 0
  /-- R318: SPn.STATUS.RATE_ERR. -/
  rateErr : Bool := false
  /-- R318: SPn.STATUS.LOST_SEEN. -/
  lostSeen : Bool := false
  /-- R318: SPn.STATUS.FRAME_ERR_SEEN. -/
  frameErrSeen : Bool := false
  /-- R318: SPn.ERRCNT.FRAME_ERRS. -/
  frameErrs : Nat := 0
  /-- R318: SPn.ERRCNT.LOSSES. -/
  losses : Nat := 0
  deriving DecidableEq, Repr

/-- The descriptor set that the steward builds when USB.EN = 1 is committed (R323, R324). -/
structure UsbDesc where
  /-- R341: VID. -/
  vid : Nat := 0x3D19
  /-- R341: PID. -/
  pid : Nat := 0x9441
  /-- R341: bcdDevice. -/
  bcd : Nat := 0x0100
  /-- R341: OUT channels. -/
  outCh : Nat := 2
  /-- R341: IN channels. -/
  inCh : Nat := 2
  /-- R341: 24-bit samples. -/
  wide : Bool := true
  /-- R324: the rates reported: those of USB.RATES that meet R87. -/
  rates : Nat := 8
  /-- R341: the HID interface is present. -/
  hid : Bool := true
  /-- R341: the DFU run-time interface is present. -/
  dfu : Bool := false
  /-- R341: the remote-wake attribute. -/
  rwake : Bool := true
  /-- R341: the BOS descriptor reports LPM. -/
  lpm : Bool := true
  /-- R341: bMaxPower. -/
  maxPower : Nat := 50
  /-- R341: the self-powered attribute. -/
  selfPowered : Bool := false
  /-- R341: high speed is offered. -/
  hs : Bool := true
  /-- R324: string descriptors 1 and 2 taken from USB.STR_ADDR; none while it is 0. -/
  strings : List (List Byte) := []
  deriving DecidableEq, Repr

/-- R323: the interfaces of Table 16.2, and the interface of DFU mode (R331). -/
inductive UsbInterface where
  | audioControl
  | audioOut
  | audioIn
  | hid
  | vendor
  | dfuRunTime
  | dfuMode
  deriving DecidableEq, Repr

/-- R323: what an endpoint of Table 16.2 does. -/
inductive UsbEndpoint where
  | isoOut
  | feedback
  | isoIn
  | interruptIn
  deriving DecidableEq, Repr

/-- What the descriptors state (R321, R323, R324, R331), item by item; how an item is laid out in bytes is the USB
specifications' matter. -/
inductive UsbItem where
  /-- R341: VID, PID and bcdDevice -/
  | device (vid pid bcd : Nat)
  /-- R324: the one configuration: how many interfaces, bMaxPower, self-powered, remote wake -/
  | configuration (interfaces maxPower : Nat) (selfPowered rwake : Bool)
  /-- R323: the association of the audio interfaces -/
  | association (first count : Nat)
  /-- R323: an alternate setting; `cls`: class, subclass and protocol as far as the spec gives numbers -/
  | altSetting (num alt : Nat) (kind : UsbInterface) (cls : List Nat)
  /-- R323: a clock source, internal and programmable -/
  | clockSource (id : Nat)
  /-- R324: the rates reported, in hertz -/
  | rates (hz : List Nat)
  /-- R323: an input terminal; no type is USB streaming -/
  | inputTerminal (id : Nat) (type : Option Nat)
  /-- R321, R323: a feature unit with master mute and master volume -/
  | featureUnit (id : Nat)
  /-- R323: an output terminal; no type is USB streaming -/
  | outputTerminal (id : Nat) (type : Option Nat)
  /-- R324: channels, bSubslotSize, bBitResolution -/
  | format (channels subslot bits : Nat)
  /-- R323, R324: an endpoint's address, maximum packet size and bInterval -/
  | endpoint (addr : Nat) (kind : UsbEndpoint) (size interval : Nat)
  /-- R331: bitManifestationTolerant, bitCanDnload, bitCanUpload, wTransferSize -/
  | dfuFunction (tolerant canDnload canUpload : Bool) (transfer : Nat)
  /-- R324: LPM with a baseline BESL -/
  | lpm (besl : Nat)
  deriving DecidableEq, Repr

/-- The USB device (16_usb_device). -/
structure UsbDev where
  /-- R342: USB.STATUS.STATE. -/
  state : UsbState := .detached
  /-- R334: the state that the end of a suspend or of L1 returns to. -/
  before : UsbState := .default
  /-- R342: USB.STATUS.SPEED. -/
  speed : Bool := false
  /-- R342: USB.STATUS.RWAKE_ENABLED. -/
  rwakeOn : Bool := false
  /-- R342: USB.STATUS.ALT_OUT. -/
  altOut : Bool := false
  /-- R342: USB.STATUS.ALT_IN. -/
  altIn : Bool := false
  /-- R342: USB.STATUS.RATE. -/
  rate : Nat := 0
  /-- R328: ALT_OUT at the next tick. -/
  altOutNext : Bool := false
  /-- R328: ALT_IN at the next tick. -/
  altInNext : Bool := false
  /-- R328: RATE at the next tick. -/
  rateNext : Nat := 0
  /-- R328: the present frame is the frame of zero after a change of rate or alternate setting. -/
  zeroFrame : Bool := false
  /-- R342: USB.STATUS.ADDRESS. -/
  address : Nat := 0
  /-- R321: the test mode entered. -/
  testMode : Option Nat := none
  /-- R323: the descriptor set as built. -/
  desc : UsbDesc := {}
  /-- R323: the descriptor set that the last GET_DESCRIPTOR was served from. -/
  served : Option UsbDesc := none
  /-- R323: what the descriptor that the last GET_DESCRIPTOR asked for states. -/
  items : List UsbItem := []
  /-- R330: the data of the last IN request that the spec gives byte for byte. -/
  reply : List Byte := []
  /-- R330: the last request was answered with STALL. -/
  stalled : Bool := false
  /-- R335: the last LPM request was answered NYET. -/
  nyet : Bool := false
  /-- R342: USB.WAKE_STATUS.REASON. -/
  reason : BitVec 7 := 0
  /-- R342: USB.WAKE_STATUS.SOFTWARE. -/
  software : Bool := false
  /-- R342: USB.WAKE_STATUS.MERGED. -/
  merged : Bool := false
  /-- R329: input report 1 is due. -/
  report1 : Bool := false
  /-- R338: input report 2 is due. -/
  report2 : Bool := false
  /-- R338: report 2 as formed, in the bits of USB.WAKE_STATUS, while the host has not acknowledged it. -/
  formed : Option (BitVec 9) := none
  /-- R338: what was recorded since that report was formed. -/
  sinceFormed : BitVec 9 := 0
  /-- R329: the last input report sent. -/
  lastReport : List Byte := []
  /-- R342: USB.HID_LED. -/
  hidLed : Byte := 0
  /-- R335: bRemoteWake of the L1 request. -/
  l1Wake : Bool := false
  /-- R336: the device drives K. -/
  driving : Bool := false
  /-- R337: the host drives resume K. -/
  hostK : Bool := false
  /-- R331: no DFU mode, run-time DFU mode, or the boot ROM's. -/
  dfuMode : DfuMode := .off
  /-- R342: USB.DFU_STATUS state. -/
  dfu : DfuState := .appIdle
  /-- R342: USB.DFU_STATUS.CODE. -/
  dfuCode : Nat := 0
  /-- R332: DFU bStatus. -/
  dfuStatus : Nat := 0
  /-- R342: bytes downloaded; KIB_RECEIVED is its thousand-and-twenty-fourths. -/
  dfuLen : Nat := 0
  /-- R342: USB.FEEDBACK, the last feedback value sent. -/
  feedback : Word := 0
  /-- R327: the feedback value to send next. -/
  fbNext : Word := 0
  /-- R327: the SOF intervals of the last 64 ms in core cycles, newest first. -/
  sof : List Nat := []
  /-- R342: USB.ERRCNT.CRC_ERRS. -/
  crcErrs : Nat := 0
  /-- R342: USB.ERRCNT.ISO_MISSED. -/
  isoMissed : Nat := 0
  /-- R330: the USB access address. -/
  acc : Word := 0
  /-- R326: the OUT packet ring, oldest sample period first. -/
  outRing : List (SMap Word) := []
  /-- R326: sample periods that have left the IN queue and wait for the next IN packet. -/
  inPack : List (SMap Word) := []
  /-- R326: the sample periods that left the IN queue in the (micro)frame before the present one. -/
  inReady : List (SMap Word) := []
  /-- R326: the sample periods of the last IN packet. -/
  inSent : List (SMap Word) := []
  /-- R328: OUT feature unit: mute. -/
  muteOut : Bool := false
  /-- R328: IN feature unit: mute. -/
  muteIn : Bool := false
  /-- R328: OUT feature unit: volume in half decibels, -128 to 0. -/
  volOut : Int := 0
  /-- R328: IN feature unit: volume. -/
  volIn : Int := 0
  /-- R328: mute and volume in force for OUT at the end of the present frame. -/
  gainOut : Bool × Int := (false, 0)
  /-- R328: mute and volume in force for IN at the end of the present frame. -/
  gainIn : Bool × Int := (false, 0)
  /-- R328: mute and volume in force for OUT at the start of the present frame. -/
  fromOut : Bool × Int := (false, 0)
  /-- R328: mute and volume in force for IN at the start of the present frame. -/
  fromIn : Bool × Int := (false, 0)
  /-- R328: the OUT gain ramps across the present frame. -/
  rampOut : Bool := false
  /-- R328: the IN gain ramps across the present frame. -/
  rampIn : Bool := false
  deriving DecidableEq, Repr

/-- A RING.SEND under way (R354). -/
structure RingSend where
  /-- R354: OP. -/
  op : SendOp := .block
  /-- R354: DST. -/
  dst : BitVec 7 := 0
  /-- R354: the system address, for READ and WRITE. -/
  addr : Word := 0
  /-- R354: the data, for WRITE. -/
  data : Word := 0
  /-- R354: the command block, for BLOCK. -/
  words : List Word := []
  /-- R354: the access address has been set. -/
  addressed : Bool := false
  /-- R354: the block has been accepted. -/
  acked : Bool := false
  /-- R355: the sequence number of the exchange. -/
  seq : BitVec 5 := 0
  /-- R354: attempts made. -/
  tries : Nat := 1
  /-- R354: ACK 0x01 replies. -/
  busies : Nat := 0
  deriving DecidableEq, Repr

/-- The Rholde ring (17_rholde_ring). -/
structure RingNode where
  /-- R369: RING.STATUS.STATE. -/
  state : RingState := .off
  /-- R369: RING.STATUS.TRAIN_FAIL. -/
  trainFail : Nat := 0
  /-- R369: RING.STATUS.ADDRESS. -/
  addr : BitVec 7 := 0x7E
  /-- R369: RING.STATUS.ROLE. -/
  role : Bool := false
  /-- R369: RING.STATUS.LOOP_LONG. -/
  loopLong : Bool := false
  /-- R369: RING.STATUS.BROKEN. -/
  broken : Bool := false
  /-- R369: RING.STATUS.CALL_SEEN. -/
  callSeen : Bool := false
  /-- R369: RING.STATUS.LOCK. -/
  lock : Bool := false
  /-- R369: RING.PRESENT. -/
  present : BitVec 64 := 0
  /-- R369: RING.LOOP. -/
  loop : Nat := 0
  /-- R369: RING.ERRCNT.CRC_ERRS. -/
  crcErrs : Nat := 0
  /-- R369: RING.ERRCNT.CODE_ERRS. -/
  codeErrs : Nat := 0
  /-- R369: RING.ERRCNT2.BAD_MSG. -/
  badMsg : Nat := 0
  /-- R369: RING.ERRCNT2.UNDELIVERED. -/
  undelivered : Nat := 0
  /-- R369: RING.ERRCNT2.STOMPED. -/
  stomped : Nat := 0
  /-- R369: RING.ERRCNT2.SLOT_COLLIDES. -/
  collides : Nat := 0
  /-- R369: RING.SEND_STATUS.BUSY. -/
  sendBusy : Bool := false
  /-- R369: RING.SEND_STATUS.VALID. -/
  sendValid : Bool := false
  /-- R369: RING.SEND_STATUS.CODE. -/
  sendCode : Nat := 0
  /-- R369: RING.SEND_DATA. -/
  sendData : Word := 0
  /-- R369: RING.LOSTCNT.HELD. -/
  held : Nat := 0
  /-- R369: RING.LOSTCNT.LOCK_LOSSES. -/
  lockLosses : Nat := 0
  /-- R356: consecutive frames without an error in CHECK, up to 240. -/
  clean : Nat := 0
  /-- R360: consecutive returned frames with the own tag and a good CRC while FORMING, up to 48. -/
  formed : Nat := 0
  /-- R360: the master opens its bypass at the next tick. -/
  formDue : Bool := false
  /-- R350: consecutive returned frames with a loop delay of at most 40 us, up to 48. -/
  shortLoop : Nat := 0
  /-- R351: consecutive bad frames received, up to 5. -/
  badRun : Nat := 0
  /-- R351: the received slot values in force, held through bad frames. -/
  rx : SMap Word := []
  /-- R349: good returned frames not yet relayed: FRAME_NO, WRITTEN, slots. -/
  returned : List (BitVec 16 × BitVec 384 × SMap Word) := []
  /-- R365: consecutive returned frames in which a PRESENT bit that was set is missing. -/
  missing : SMap Nat := []
  /-- R357: the addresses in use, at the master. -/
  assigned : BitVec 64 := 1
  /-- R345: FRAME_NO of the last frame originated. -/
  frameNo : BitVec 16 := 0
  /-- R358: frames originated since the last join window fell due, up to 384. -/
  sinceJoin : Nat := 0
  /-- R362: frames of the call burst still to send. -/
  callLeft : Nat := 0
  /-- R357: the next frame carries the EMPTY control word of a join window. -/
  helloNext : Bool := false
  /-- R357: this joining node has sent its HELLO. -/
  helloSent : Bool := false
  /-- R357: the answer to HELLO, sent ahead of everything. -/
  assign : Option RingMsg := none
  /-- R352: control words to be relayed. -/
  relay : List RingMsg := []
  /-- R352: the own messages that wait for an EMPTY control word. -/
  outbox : List RingMsg := []
  /-- R359: LEAVE or EJECT 0x1 is to be sent, and the bypass then closes. -/
  leaving : Bool := false
  /-- R359: LEAVE has been inserted. -/
  leaveSent : Bool := false
  /-- R355: the last sequence number used. -/
  seq : BitVec 5 := 0
  /-- R354: the RING.SEND under way. -/
  send : Option RingSend := none
  /-- R353: blocks being reassembled: source, sequence number, words. -/
  parts : List (BitVec 7 × BitVec 5 × List Word) := []
  /-- R353: source and sequence number of the block in the ring mailbox. -/
  blkFrom : Option (BitVec 7 × BitVec 5) := none
  /-- R355: last block taken in from each source, with its response. -/
  lastBlk : List (BitVec 7 × BitVec 5 × Option Word) := []
  /-- R355: last access of each source with its RESULT. -/
  lastAcc : List (BitVec 7 × BitVec 4 × BitVec 5 × BitVec 8 × Word) := []
  /-- R353: the ring access address. -/
  acc : Word := 0
  /-- R352: messages for this node taken from good frames, oldest first, not yet acted on. -/
  inbox : List RingMsg := []
  /-- R357: the last frame carried the JOIN flag. -/
  afterJoin : Bool := false
  /-- R347: the last frame sent on RING_OUT. -/
  sent : Option RingFrame := none
  deriving DecidableEq, Repr

/-- What a forced self-test makes of a channel's frame (Table 19.1). -/
inductive MuteKind
  | none | zero | fade
  deriving DecidableEq, Repr

/-- The microphone channels (18_microphones_and_wake). -/
structure MicState where
  /-- R373: the gain a PGA has reached, in dB; PGA_RAMPING while it is not MIC.PGA_x. -/
  pga : Vector Nat 4 := Vector.replicate 4 0
  /-- R397: MIC.STATUS.BIASn_ILIM. -/
  biasIlim : BitVec 2 := 0
  /-- R377: PDM microphones that are stuck now. -/
  stuckNow : BitVec 16 := 0
  /-- R397: MIC.PDM_STUCK. -/
  stuck : BitVec 16 := 0
  /-- R397: MIC.CLIP. -/
  clip : BitVec 20 := 0
  /-- R378: MIC_CLIP has been raised in the present frame. -/
  clipFrame : Bool := false
  /-- R376: PDM_CLK0 and PDM_CLK1 run. -/
  pdmClk : BitVec 2 := 0
  /-- R377: PDM microphones within 10 ms of a clock start or change. -/
  muted : BitVec 16 := 0
  /-- R397: MIC.CAL_RESULT.CODE. -/
  calCode : Nat := 0
  /-- R397: MIC.CAL_RESULT.SUB. -/
  calSub : Nat := 0
  /-- R397: MIC.CAL_RESULT.CHANNEL. -/
  calCh : Nat := 0
  /-- R397: MIC.CAL_RESULT.VALUE. -/
  calValue : BitVec 8 := 0
  /-- R371: MIC.CH_EN as it stood through the frame before the present one. -/
  wasEn : BitVec 20 := 0
  /-- R402: thirds of a millisecond of closed frames since the forced self-test of AADCx began to mute its channel. -/
  muteAge : Vector Nat 4 := Vector.replicate 4 0
  /-- R383: the speaker channel of a MIC_ARRAY perform phase has left RUNNING since the phase began. -/
  arrayLost : Bool := false
  deriving DecidableEq, Repr

/-- The wake path (18_microphones_and_wake). -/
structure WakeState where
  /-- R397: WAKE.STATUS.PTT_LEVEL. -/
  pttLow : Bool := false
  /-- R386: PTT_N has been high for its debounce time since the PTT wake last fired. -/
  pttArmed : Bool := true
  /-- R385: noise floor of MIC_A in hundredths of a decibel. -/
  floorA : Option Int := none
  /-- R385: noise floor of MIC_B. -/
  floorB : Option Int := none
  /-- R385: whether the last blocks were voice-like, newest first. -/
  blocks : List Bool := []
  /-- R385: the detector may fire. -/
  armed : Bool := true
  /-- R385: consecutive blocks that are not voice-like since it fired. -/
  quiet : Nat := 0
  deriving DecidableEq, Repr

/-- The firn vault (18_microphones_and_wake); its samples are in the memory of unit 20. -/
structure VaultState where
  /-- R397: VAULT.STATUS.OPEN. -/
  open_ : Bool := false
  /-- R393: the export under way: its destination; VAULT.STATUS.EXPORT_BUSY. -/
  exporting : Option Nat := none
  /-- R397: VAULT.STATUS.BY_PTT. -/
  byPtt : Bool := false
  /-- R397: VAULT.STATUS.BY_VOICE. -/
  byVoice : Bool := false
  /-- R390: the PTT wake fired while recording; the vault opens at the next tick. -/
  firedPtt : Bool := false
  /-- R390: the voice detector fired while recording. -/
  firedVoice : Bool := false
  /-- R397: VAULT.STATUS.LAST_INDEX. -/
  lastIndex : Nat := 0
  /-- R388: the sample to be written next. -/
  index : Nat := 0
  /-- R397: VAULT.VALID. -/
  valid : Nat := 0
  /-- R397: VAULT.FREEZE_FRAME. -/
  freezeFrame : Word := 0
  /-- R397: VAULT.WAKE_INDEX. -/
  wakeIndex : Nat := 0
  /-- R392, R397: thirds of a millisecond left until the automatic re-seal, as the ticks count them; VAULT.OPEN_LEFT shows
  whole seconds of them. -/
  openLeft : Nat := 0
  /-- R388, R393: C of the recording that an open vault holds. -/
  chans : Nat := 0
  /-- R393: a re-seal waits for the end of an export. -/
  resealDue : Bool := false
  deriving DecidableEq, Repr

/-- The line outputs and resistor-string DACs (20_outputs_and_jack). -/
structure DacState where
  /-- R445: DAC.STATUS.LOUT_LIMIT. -/
  loutLimit : BitVec 2 := 0
  /-- R445: DAC.STATUS.LOUT_SC. -/
  loutSc : BitVec 2 := 0
  /-- R445: DAC.STATUS.LOUT_OFF. -/
  loutOff : BitVec 2 := 0
  /-- R424: thirds of a millisecond for which a disabled line output may still ramp to silence. -/
  loutRamp : Vector Nat 2 := Vector.replicate 2 0
  /-- R430: the RDAC queues, oldest code first; RDAC_QCOUNTx is their length. -/
  q : Vector (List (BitVec 12)) 2 := Vector.replicate 2 []
  /-- R430: the code held since the first entry was taken; none before it. -/
  code : Vector (Option (BitVec 12)) 2 := Vector.replicate 2 none
  /-- R430: the run of empty clocks has been reported. -/
  empty : BitVec 2 := 0
  /-- R445: DAC.STATUS.RDAC_OVF. -/
  ovf : BitVec 2 := 0
  /-- R445: DAC.STATUS.RDAC_UNDERRUN. -/
  underrun : BitVec 2 := 0
  deriving DecidableEq, Repr

/-- A tone generator (20_outputs_and_jack). -/
structure ToneGen where
  /-- R432: the part of its cycle. -/
  phase : TonePhase := .idle
  /-- R431: the phase accumulator. -/
  acc : Word := 0
  /-- R432: thirds of a millisecond of frame time in the part of the cycle. -/
  t : Nat := 0
  /-- R432: the time `t` at which EN = 0 began the ramp out. -/
  stopT : Nat := 0
  /-- R432: cycles completed. -/
  cycles : Nat := 0
  /-- R432: LEVEL in force in the previous frame. -/
  level : Nat := 40
  /-- R445: TONE.STATUS.DONE. -/
  done : Bool := false
  deriving DecidableEq, Repr

/-- The volume stages of the output endpoints HP_L, HP_R, LOUTL, LOUTR, SPK0 and SPK1. -/
structure OutState where
  /-- R423: the volume code that each output ramps from in the present frame. -/
  vol : Vector Nat 6 := Vector.replicate 6 0
  /-- R291, R422: the frame that each output emits, behind its volume. -/
  frame : Vector (SMap Word) 6 := Vector.replicate 6 []
  deriving DecidableEq, Repr

/-- The headphone outputs (20_outputs_and_jack). -/
structure HpBlk where
  /-- R445: HP.STATUS.STATE. -/
  state : HpState := .off
  /-- R445: HP.STATUS.RAIL_HIGH. -/
  railHigh : Bool := false
  /-- R445: the rail step; RAIL_STEPPING while there is one. -/
  step : RailStep := .none
  /-- R445: HP.STATUS.CLIP. -/
  clip : Bool := false
  /-- R445: HP.STATUS.ILIM. -/
  ilim : Bool := false
  /-- R428: HP_ILIM has been raised in the present frame. -/
  ilimFrame : Bool := false
  /-- R439: the outputs stop for a removal sequence. -/
  removal : Bool := false
  deriving DecidableEq, Repr

/-- The headset jack (20_outputs_and_jack). -/
structure JackBlk where
  /-- R445: JACK.STATUS.STATE. -/
  state : JackState := .disabled
  /-- R445: JACK.STATUS.TYPE. -/
  typ : JackType := .none
  /-- R445: JACK.STATUS.BTN. -/
  btn : Nat := 0
  /-- R445: JACK.STATUS.BTN_STALE. -/
  btnStale : Bool := false
  /-- R445: JACK.STATUS.DET_RAW. -/
  detRaw : Bool := false
  /-- R445: JACK.STATUS.MICPOLE_OPEN. -/
  micOpen : Bool := false
  /-- R436: consecutive results that read present. -/
  present : Nat := 0
  /-- R436: consecutive results that read absent. -/
  absent : Nat := 0
  /-- R436: the mic-pole comparator has read open since the first absent result. -/
  openRun : Bool := false
  /-- R437: MICBIAS1 is enabled for a plug. -/
  bias : Bool := false
  /-- R441: the button state that the last results of input 1 agree on. -/
  btnCand : Nat := 0
  /-- R441: consecutive results that agree on it. -/
  btnRun : Nat := 0
  deriving DecidableEq, Repr

/-- The audio ADCs (19_input_converters). -/
structure AadcState where
  /-- R420: AADC.STATUS.CM_OK as last measured. -/
  cmOk : BitVec 4 := 0
  /-- R420: AADC.TEST_RESULT_x.CODE. -/
  testCode : Vector Nat 4 := Vector.replicate 4 0
  /-- R420: AADC.TEST_RESULT_x.SUB. -/
  testSub : Vector Nat 4 := Vector.replicate 4 0
  /-- R420: AADC.TEST_RESULT_x.LEVEL_ERR. -/
  testLevel : Vector (BitVec 8) 4 := Vector.replicate 4 0
  /-- R420: AADC.TEST_RESULT_x.THDN. -/
  testThdn : Vector (BitVec 8) 4 := Vector.replicate 4 0
  deriving DecidableEq, Repr

/-- The pipeline converters (19_input_converters). -/
structure PipeState where
  /-- R420: PIPE.STATUS.OVR. -/
  ovr : BitVec 6 := 0
  /-- R408: PIPE_OVR has been raised in the present frame. -/
  ovrFrame : Bool := false
  /-- R420: PIPE.STATUS.CONVERGED. -/
  converged : BitVec 6 := 0
  deriving DecidableEq, Repr

/-- A SAR converter (19_input_converters). -/
structure SarState where
  /-- R420: SARn.STATUS.QUEUE_OVR. -/
  queueOvr : Bool := false
  /-- R416: the queue's entries as SARn.QUEUE returns them, oldest first; QCOUNT is their number. -/
  queue : List Word := []
  /-- R420: SARn.STATUS.POS. -/
  pos : Nat := 0
  /-- R420: SARn.STATUS.VREFX_LOW. -/
  vrefxLow : Bool := false
  /-- R420: SARn.STATUS.SCAN_LATE. -/
  scanLate : Bool := false
  /-- R420: SARn.STATUS.REFRDY. -/
  refrdy : Bool := false
  /-- R420: SARn.STATUS.SCANNING. -/
  scanning : Bool := false
  /-- R412: a scan start has been delayed. -/
  late : Bool := false
  /-- R419: a triggered scan is pending. -/
  trig : Bool := false
  /-- R414: the urgent request pending; STATUS.URGENT_PENDING. -/
  urgent : Option (Fin 16) := none
  /-- R411: REF of the scan in progress. -/
  ref : Nat := 0
  /-- R411: SEQLEN of the scan in progress. -/
  seqlen : Nat := 1
  /-- R411: SEQ_j of the scan in progress. -/
  seq : Vector Nat 16 := Vector.replicate 16 0
  /-- R420: SARn.RESULT_i.VALUE. -/
  value : Vector (BitVec 12) 16 := Vector.replicate 16 0
  /-- R420: SARn.RESULT_i.NEW. -/
  new : BitVec 16 := 0
  /-- R420: SARn.RESULT_i.OVR. -/
  overrun : BitVec 16 := 0
  /-- R420: SARn.RESULT_i.URGENT. -/
  wasUrgent : BitVec 16 := 0
  /-- R420: SARn.URGENT_RESULT.NEW. -/
  urgNew : Bool := false
  /-- R420: SARn.URGENT_RESULT.INPUT. -/
  urgInput : Nat := 0
  /-- R420: SARn.URGENT_RESULT.VALUE. -/
  urgValue : BitVec 12 := 0
  /-- R420: SARn.WIN_STATUS.FIRED. -/
  fired : BitVec 8 := 0
  /-- R420: SARn.WIN_STATUS.ACTIVE. -/
  active : BitVec 8 := 0
  /-- R417: consecutive results that matched, up to 16. -/
  run : Vector Nat 8 := Vector.replicate 8 0
  /-- R417: the comparator has fired since a result that did not match. -/
  hit : BitVec 8 := 0
  /-- R420: SAR0.SYS_TEMP in quarters of a degree. -/
  sysTemp : Int := 0
  /-- R420: SAR0.SYS_JACK. -/
  sysJack : BitVec 12 := 0
  /-- R413: the next system conversion is of the die temperature. -/
  sysTurn : Bool := false
  deriving DecidableEq, Repr

/-- A speaker channel (21_speaker_power_stage). -/
structure SpkCh where
  /-- R464: SPK.STATUS_x.STATE. -/
  state : SpkState := .off
  /-- R464: SPK.STATUS_x.CAUSE. -/
  cause : SpkCause := .none
  /-- R464: SPK.STATUS_x.RETRIES. -/
  retries : Nat := 0
  /-- R460: the attenuation A, in half decibels, that holds once any fall of it has ended; SPK.STATUS_x.ATTEN. -/
  atten : Nat := 0
  /-- R460: the attenuation that a fall in progress came from. -/
  attenFrom : Nat := 0
  /-- R460: thirds of a millisecond for which A may still be falling. -/
  attenLeft : Nat := 0
  /-- R464: SPK.STATUS_x.CLIP. -/
  clip : Bool := false
  /-- R464: thirds of a millisecond for which SPK.STATUS_x.ILIM_ACT still reads 1. -/
  ilim : Nat := 0
  /-- R452: the half-bridges have been released and the start window runs. -/
  window : Bool := false
  /-- R453: consecutive limited cycles. -/
  consec : Nat := 0
  /-- R453: ages in PWM cycles of the limited cycles of the last 768. -/
  recent : List Nat := []
  /-- R464: SPK.LIMCNT_x.LIMITED. -/
  limited : Nat := 0
  /-- R464: SPK.LIMCNT_x.SHUTDOWNS. -/
  shutdowns : Nat := 0
  /-- R464: SPK.IMP_x.VALID. -/
  impValid : Bool := false
  /-- R464: SPK.IMP_x.SNR_DB. -/
  snr : Nat := 0
  /-- R464: SPK.IMP_x.MAG. -/
  mag : Nat := 0
  deriving DecidableEq, Repr

/-- The speaker power stage (21_speaker_power_stage). -/
structure SpkBlk where
  /-- R451: the channels. -/
  ch : Vector SpkCh 2 := Vector.replicate 2 {}
  /-- R464: SPK.STAGE.TEMP in quarters of a degree. -/
  temp : Int := 0
  /-- R464: SPK.STAGE.OTP. -/
  otp : Bool := false
  /-- R464: SPK.STAGE.THERM_WARN. -/
  thermWarn : Bool := false
  deriving DecidableEq, Repr

/-- A Glint channel (22_glint_path). -/
structure GlintCh where
  /-- R479: GLINT.STATUS.STATE_c. -/
  state : GlintState := .off
  /-- R466: the filter coefficients, Q2.14. -/
  h : Vector (BitVec 16) 64 := (Vector.replicate 64 0).set 0 0x4000
  /-- R479: GLINT.STATUS.CLIP_c. -/
  clip : Bool := false
  /-- R480: evaluations until GLINT_CLIP may be raised again. -/
  clipWait : Nat := 0
  /-- R479: GLINT.STATUS.DUCKING_c. -/
  ducking : Bool := false
  /-- R471: the duck is at full attenuation (firing or hold), not releasing. -/
  held : Bool := false
  /-- R471: consecutive evaluations with the envelope below DUCK_TH. -/
  below : Nat := 0
  /-- R471: evaluations left of the 50 ms release. -/
  release : Nat := 0
  /-- R479: GLINT.ENV_c. -/
  env : Byte := 0x80
  /-- R471: the envelopes of the last 64 evaluations, newest first. -/
  hist : List Byte := []
  /-- R468: evaluations for which the envelope still counts as above GATE_TH. -/
  gateHold : Nat := 0
  /-- R468: evaluations for which the gate of output o still ramps. -/
  tail : Vector Nat 4 := Vector.replicate 4 0
  deriving DecidableEq, Repr

/-- Rime, the LED halo driver (23_halo_and_gpio). -/
structure HaloState where
  /-- R496: HALO.STATUS.RUNNING. -/
  run : Bool := false
  /-- R485: the pattern pages: the code of LED k of page p at 96p + k. -/
  pages : SMap Byte := []
  /-- R496: HALO.STATUS.PAGE. -/
  page : Nat := 0
  /-- R496: HALO.STATUS.FADING. -/
  fading : Bool := false
  /-- R486: halo frames of the page's hold, or of the fade, begun. -/
  frame : Nat := 0
  /-- R486: cycles completed. -/
  cycles : Nat := 0
  /-- R486: the last cycle has ended. -/
  ended : Bool := false
  /-- R496: HALO.STATUS.SEQ_DONE. -/
  seqDone : Bool := false
  /-- R486: HALO.START waits for the next halo frame. -/
  startDue : Bool := false
  /-- R486: the sequencer's values have been taken since reset. -/
  taken : Bool := false
  /-- R486: SEQ_LEN taken at the last START or page change. -/
  len : Nat := 1
  /-- R486: HOLD_p taken. -/
  hold : Nat := 1000
  /-- R486: FADE_p taken. -/
  fade : Nat := 0
  /-- R486: REPEAT taken. -/
  rep : Nat := 0
  /-- R496: HALO.STATUS.REBASING. -/
  rebasing : Bool := false
  /-- R488: while a rebase runs, the pages and MASTER as they were frozen. -/
  frozen : Option (SMap Byte × Nat) := none
  /-- R488: length of the halo frame in progress, in twelfths of a millisecond. -/
  span : Nat := 12
  /-- R488: twelfths of a millisecond from the last tick to the end of the halo frame in progress. -/
  left : Nat := 0
  /-- R488: the remaining offset, in twelfths of a millisecond. -/
  offset : Nat := 0
  /-- R496: HALO.OPEN. -/
  open_ : BitVec 24 := 0
  deriving DecidableEq, Repr

/-- The general-purpose pins (23_halo_and_gpio). -/
structure GpioState where
  /-- R490: the levels that the board puts on GPIO0 to GPIO15. -/
  level : BitVec 16 := 0
  /-- R496: GPIO.EDGE_SEEN. -/
  edgeSeen : BitVec 16 := 0
  /-- R496: GPIO.STATUS.BTN. -/
  btn : Byte := 0
  /-- R492: BTN events to be raised after the return to RUN. -/
  btnOwed : Byte := 0
  /-- R496: GPIO.STATUS.PTT. -/
  ptt : Bool := false
  deriving DecidableEq, Repr

/-- The whole machine. -/
structure State where
  /-- The supply, its monitor and the power modes. -/
  sup : SupState := {}
  /-- The speaker boost. -/
  boost : BoostState := {}
  /-- Clocks, reference, queues and the frame. -/
  clk : ClkState := {}
  /-- Reset, straps and bring-up. -/
  rst : RstState := {}
  /-- The life cycle and the fuse map. -/
  lcy : LcyState := {}
  /-- The debug port. -/
  dbg : DbgState := {}
  /-- Ball states. -/
  pin : PinState := {}
  /-- The host two-wire target. -/
  twh : TwhState := {}
  /-- The two-wire controller. -/
  twc : TwcState := {}
  /-- The host window. -/
  win : WinState := {}
  /-- Events. -/
  evt : EvtState := {}
  /-- Command blocks, claims and the steward's mailboxes. -/
  cmd : CmdState := {}
  /-- The lanes, their contexts and the reserve lane. -/
  lane : LaneState := {}
  /-- The steward. -/
  stw : StwState := {}
  /-- The memory banks and the Glacier store. -/
  mem : MemState := {}
  /-- The streams and Brine. -/
  strm : StrmState := {}
  /-- SP0 to SP3. -/
  sp : Vector SpState 4 := Vector.replicate 4 {}
  /-- The USB device. -/
  usb : UsbDev := {}
  /-- The Rholde ring. -/
  ring : RingNode := {}
  /-- The microphone channels. -/
  mic : MicState := {}
  /-- The wake path. -/
  wake : WakeState := {}
  /-- The firn vault. -/
  vault : VaultState := {}
  /-- The volume stages of the outputs. -/
  out : OutState := {}
  /-- The line outputs and resistor-string DACs. -/
  dac : DacState := {}
  /-- The tone generators. -/
  tone : Vector ToneGen 8 := Vector.replicate 8 {}
  /-- The headphone outputs. -/
  hp : HpBlk := {}
  /-- The headset jack. -/
  jack : JackBlk := {}
  /-- The audio ADCs. -/
  aadc : AadcState := {}
  /-- The pipeline converters. -/
  pipe : PipeState := {}
  /-- The SAR converters. -/
  sar : Vector SarState 2 := Vector.replicate 2 {}
  /-- The speaker power stage. -/
  spk : SpkBlk := {}
  /-- The Glint channels. -/
  glint : Vector GlintCh 2 := Vector.replicate 2 {}
  /-- The LED halo driver. -/
  halo : HaloState := {}
  /-- The general-purpose pins. -/
  gpio : GpioState := {}
  /-- Every configuration field in force, by block ID times 0x1000 plus field ID; an unlisted key holds the field's reset value (Fields.lean). -/
  cfg : SMap Nat := []
  /-- R19, R21: the committed changes that wait for the next tick, in the order they were committed. -/
  flow : List FlowChange := []
  /-- The MODEL's own counter: how many values the spec leaves open have been taken (Config.freeWord). -/
  free : Nat := 0
  /-- The MODEL's own queue: the commands that wait, first in, first out. -/
  pending : List Instr := []
  deriving DecidableEq, Repr

/-- Why the machine stops with a fault. -/
inductive Fault where
  /-- No command raises it: the spec gives every command an effect, so no meaning stops the machine.
  The constructor keeps the type inhabited. Safe. -/
  | none
  deriving DecidableEq, Repr

/-- Why a command has no meaning. -/
inductive Refusal where
  /-- A command whose meaning is not written yet; raised by `exec` only. Safe. -/
  | notModelled (mnemonic : String)
  deriving DecidableEq, Repr

/-- The outcome of a command or a step. -/
abbrev Out := Host.Outcome State Fault Refusal

/-- The machine at reset: powered down before POR release, every register at its reset value, memory empty, the fuse
map as the part is shipped, no command waiting (assumption log 1). -/
def State.reset : State := {}

end Sys2Proof.Machine
end

