-- ==== Sys2Proof/Machine/Operands.lean ====
section
/-! DEFINITION. The operand forms of the Slaso instructions (R188, R191, R212): value registers, accumulators, pointers
with their post-modify, predicates, loop counters. -/

namespace Sys2Proof.Machine

/-- v0 to v31. -/
def RegSet.vr (r : RegSet) (k : Fin 32) : Word := r.v[k]

/-- Writes v0 to v31. -/
def RegSet.setV (r : RegSet) (k : Fin 32) (x : Word) : RegSet := { r with v := r.v.set k x }

/-- Writes a value register and lets a clamp set CSW.SAT (R189). -/
def RegSet.setVS (r : RegSet) (k : Fin 32) (x : Word × Bool) : RegSet :=
  { r with v := r.v.set k x.1, sat := r.sat || x.2 }

/-- The odd register of the pair whose even register is `k` (R221, R224). -/
def oddOf (k : Fin 32) : Fin 32 := ⟨(k.val + 1) % 32, Nat.mod_lt _ (by decide)⟩

/-- a0 to a3 as an exact integer at scale 2^−62. -/
def RegSet.ar (r : RegSet) (k : Fin 4) : Int := r.a[k].toInt

/-- Writes an accumulator and lets a clamp set CSW.SAT. -/
def RegSet.setA (r : RegSet) (k : Fin 4) (x : BitVec 72 × Bool) : RegSet :=
  { r with a := r.a.set k x.1, sat := r.sat || x.2 }

/-- p0 to p7. -/
def RegSet.pr (r : RegSet) (k : Fin 8) : Ptr := r.p[k]

/-- Writes a pointer. -/
def RegSet.setP (r : RegSet) (k : Fin 8) (x : Ptr) : RegSet := { r with p := r.p.set k x }

/-- R191: the post-modify of a pointer by a signed step. -/
def Ptr.stepBy (p : Ptr) (s : Int) : Ptr :=
  if p.len = 0 then { p with addr := p.addr + BitVec.ofInt 32 s }
  else { p with
    addr := p.start + BitVec.ofInt 32 (((p.addr.toNat : Int) - p.start.toNat + s) % (p.len.toNat : Int)) }

/-- Applies the post-modify to pointer `k`. -/
def RegSet.stepP (r : RegSet) (k : Fin 8) (s : Int) : RegSet := r.setP k ((r.pr k).stepBy s)

/-- q0 to q3. -/
def RegSet.qr (r : RegSet) (k : Fin 4) : Bool := r.q.getLsbD k

/-- Writes a predicate. -/
def RegSet.setQ (r : RegSet) (k : Fin 4) (b : Bool) : RegSet :=
  { r with q := if b then r.q ||| BitVec.ofNat 4 (2 ^ k.val) else r.q &&& ~~~BitVec.ofNat 4 (2 ^ k.val) }

/-- The counter of the innermost active loop. -/
def RegSet.inner (r : RegSet) : LoopCtr := if r.depth = 2 then r.lc1 else r.lc0

/-- Replaces the counter of the innermost active loop. -/
def RegSet.setInner (r : RegSet) (c : LoopCtr) : RegSet :=
  if r.depth = 2 then { r with lc1 := c } else { r with lc0 := c }

/-- R228: releases the innermost counter. -/
def RegSet.popLoop (r : RegSet) : RegSet := { r.setInner {} with depth := r.depth - 1 }

/-- R228: after an instruction at `pc` falls through: back to the loop's start, or out of it, or on. -/
def RegSet.fallThrough (r : RegSet) : RegSet :=
  if 0 < r.depth && r.inner.last == r.pc then
    if 1 < r.inner.n.toNat then
      { r.setInner { r.inner with n := r.inner.n - 1 } with pc := r.inner.start }
    else { r.popLoop with pc := r.pc + 1 }
  else { r with pc := r.pc + 1 }

/-- LOOP's push (R227) of a count that is not zero. -/
def RegSet.pushLoop (r : RegSet) (n : BitVec 16) (last : Nat) : RegSet :=
  let c : LoopCtr := { n := n, start := r.pc + 1, last := last }
  if r.depth = 0 then { r with lc0 := c, depth := 1 } else { r with lc1 := c, depth := r.depth + 1 }

/-- R216: the iterations left in counter `k`, 0 while it is not in use. -/
def RegSet.lcLeft (r : RegSet) (k : Fin 2) : Word :=
  if k.val < r.depth then (if k.val = 0 then r.lc0.n else r.lc1.n).setWidth 32 else 0

/-- How an instruction ends: on to the next word, or at a target it has set. -/
inductive Go where
  | fall
  | to (pc : Nat)
  deriving DecidableEq, Repr

/-- The program counter after an instruction that ends as `g` says (R228). -/
def RegSet.advance (r : RegSet) : Go → RegSet
  | .fall => r.fallThrough
  | .to pc => { r with pc := pc }

end Sys2Proof.Machine
end

