-- ==== Sys2Proof/Config.lean ====
section
/-! DEFINITION. What one part of the family fixes (Table 00.4) and what the spec leaves open. An opaque constant has no
body: nothing in Lean can tell its value, so a statement that mentions it holds for every value. -/

namespace Sys2Proof.Config

/-- A value the spec leaves open: the one taken after `n` others (assumption log 4). -/
opaque freeWord : Nat → BitVec 32

/-- The 64-bit unique device ID (R133): each part has its own. -/
opaque deviceUid : BitVec 64

/-- The fresh 128-bit nonce of the CHALLENGE taken after `n` other open values (R128). -/
opaque freeNonce : Nat → BitVec 128

/-- The Vastalek public key held in ROM (R129, R107): x then y. -/
opaque vastalekKey : BitVec 512

/-- Table 00.4: the PARAM words of the CM9440, by selector; 0 beyond PARAM_COUNT (R5, R10). -/
def param (sel : Nat) : BitVec 32 :=
  match sel with
  | 0x00 => 0x12 | 0x01 => 0x9440 | 0x02 => 16 | 0x03 => 1 | 0x04 => 64 | 0x05 => 1024 | 0x06 => 1024 | 0x07 => 4
  | 0x08 => 1 | 0x09 => 2 | 0x0A => 6 | 0x0B => 16 | 0x0C => 4 | 0x0D => 2048 | 0x0E => 16 | 0x0F => 2
  | 0x10 => 294912 | 0x11 => 256
  | _ => 0

/-- R183, Table 08.7: the device identity. -/
def idWord : BitVec 32 := 0x944001C7

end Sys2Proof.Config
end

