-- ==== Sys2Proof/Machine/Fields.lean ====
section
/-! DEFINITION. The configuration fields: for each block its field IDs, the values each accepts, the reset value, and
whether a change rides the next tick (Tables 01.7, 03.9, 03.10, 04.8, 05.13, 07.8, 08.12 and the field tables of
chapters 09 to 23). A row may stand for several fields whose IDs are evenly spaced. Conditions on other state are not
here: they are in the block's own check. -/

namespace Sys2Proof.Machine

/-- One row of a field table. -/
structure FieldRow where
  /-- the first field ID -/
  id : Nat
  /-- how many fields the row stands for -/
  n : Nat := 1
  /-- the distance between their IDs -/
  step : Nat := 1
  /-- the closed ranges of accepted values -/
  ok : List (Int × Int)
  /-- the width of a two's complement value, 0 for an unsigned one -/
  sx : Nat := 0
  /-- the reset values, in order, the last repeated -/
  reset : List Nat := [0]
  /-- takes effect at the next tick (Table 01.4) -/
  tick : Bool := false
  /-- an action: holds no value -/
  act : Bool := false

/-- CLK, block 0x01 (Tables 01.7, 04.8). -/
def fieldsClk : List FieldRow := [
  { id := 0x001, ok := [(0, 2)] },
  { id := 0x002, ok := [(0, 4)] },
  { id := 0x003, ok := [(0, 1)] },
  { id := 0x010, ok := [(0, 3)], reset := [2], tick := true },
  { id := 0x011, ok := [(0, 1)], tick := true },
  { id := 0x020, n := 6, ok := [(0, 1)], tick := true }]

/-- PWR, block 0x02 (Table 03.9). -/
def fieldsPwr : List FieldRow := [
  { id := 0x001, ok := [(0, 3)], tick := true },
  { id := 0x002, ok := [(0, 0x7F)], reset := [0x7F] },
  { id := 0x003, ok := [(0, 0xFFFFFF)] },
  { id := 0x010, ok := [(0, 80)], reset := [5] },
  { id := 0x011, n := 4, ok := [(0, 95)], reset := [70, 60, 50, 40] },
  { id := 0x015, ok := [(0, 1)], reset := [1] },
  { id := 0x020, ok := [(0, 1)], reset := [1] }]

/-- RST, block 0x03 (Table 05.13). -/
def fieldsRst : List FieldRow := [
  { id := 0x001, ok := [(0, 0), (10, 10000)] },
  { id := 0x002, ok := [(0x5A, 0x5A)], act := true }]

/-- TWH, block 0x05 (Table 07.8). -/
def fieldsTwh : List FieldRow := [
  { id := 0x001, ok := [(0x08, 0x77)], reset := [0x3A] },
  { id := 0x002, ok := [(0, 0x7F)], reset := [0x7F] },
  { id := 0x003, ok := [(0x08, 0x77)], reset := [0x3B] },
  { id := 0x004, ok := [(0, 0x7F)], reset := [0x7F] },
  { id := 0x005, ok := [(0, 1)] },
  { id := 0x006, ok := [(0, 1)], reset := [1] },
  { id := 0x007, ok := [(0, 2)], reset := [1] }]

/-- TWC, block 0x06 (chapter 07). -/
def fieldsTwc : List FieldRow := [
  { id := 0x001, ok := [(0, 2)] },
  { id := 0x002, ok := [(0, 2)], reset := [1] },
  { id := 0x003, ok := [(0x08, 0x77)], reset := [0x50] },
  { id := 0x004, n := 2, ok := [(0, 256)] },
  { id := 0x006, ok := [(0x800000, 0x87FE00), (0x1800000, 0x187FE00)], reset := [0x87FE00] },
  { id := 0x007, ok := [(0, 15)], reset := [3] },
  { id := 0x008, ok := [(1, 255)], reset := [10] },
  { id := 0x009, ok := [(1, 1)], act := true },
  { id := 0x00A, ok := [(1, 1)], act := true }]

/-- LANE, block 0x08 (chapters 09 and 12). -/
def fieldsLane : List FieldRow := [
  { id := 0x001, ok := [(0, 1)], reset := [1] },
  { id := 0x002, ok := [(1, 16)], act := true },
  { id := 0x400, n := 1024, ok := [(64, 294912)], reset := [4608], tick := true }]

/-- MEM, block 0x09 (chapter 13). -/
def fieldsMem : List FieldRow := [
  { id := 0x001, ok := [(1, 0xFFFF)], reset := [1] },
  { id := 0x002, ok := [(0, 1)], reset := [1] },
  { id := 0x010, ok := [(0, 255)], reset := [24] },
  { id := 0x011, ok := [(0, 0xFFFF)] },
  { id := 0x012, ok := [(1, 1)] }]

/-- STRM, block 0x0A (chapter 14). -/
def fieldsStrm : List FieldRow := [
  { id := 0x000, n := 1024, ok := [(0, 16)], tick := true },
  { id := 0x400, n := 1024, ok := [(0, 0xFFFF)], reset := [0x4000], tick := true },
  { id := 0x800, n := 1024, ok := [(0, 0xFFFF)], reset := [0x4000], tick := true }]

/-- BRINE, block 0x0B (chapter 14). -/
def fieldsBrine : List FieldRow := [{ id := 0x001, ok := [(0, 1)], reset := [1], tick := true }]

/-- SP0 to SP3, blocks 0x10 to 0x13 (chapter 15). -/
def fieldsSp : List FieldRow := [
  { id := 0x001, ok := [(0, 1)], tick := true },
  { id := 0x002, ok := [(0, 2)] },
  { id := 0x003, ok := [(0, 1)] },
  { id := 0x004, ok := [(0, 11)], reset := [7] },
  { id := 0x005, ok := [(2, 32)], reset := [2] },
  { id := 0x006, ok := [(0, 2)], reset := [2] },
  { id := 0x007, ok := [(0, 1)], reset := [1] },
  { id := 0x008, ok := [(0, 1)] },
  { id := 0x009, ok := [(0, 1)], reset := [1] },
  { id := 0x00A, n := 4, ok := [(0, 1)] }]

/-- USB, block 0x14 (chapter 16). -/
def fieldsUsb : List FieldRow := [
  { id := 0x001, ok := [(0, 1)], tick := true },
  { id := 0x002, ok := [(0, 1)], reset := [1] },
  { id := 0x003, n := 3, ok := [(0, 0xFFFF)], reset := [0x3D19, 0x9441, 0x0100] },
  { id := 0x006, n := 2, ok := [(0, 16)], reset := [2] },
  { id := 0x008, ok := [(0, 1)], reset := [1] },
  { id := 0x009, ok := [(0, 0x3F)], reset := [8] },
  { id := 0x00A, ok := [(0, 1)], reset := [1] },
  { id := 0x00B, ok := [(0, 1)] },
  { id := 0x00C, n := 3, ok := [(0, 1)], reset := [1] },
  { id := 0x00F, ok := [(0, 250)], reset := [50] },
  { id := 0x010, ok := [(0, 1)] },
  { id := 0x011, ok := [(0, 0), (0x800000, 0x87FFFE)] },
  { id := 0x012, ok := [(0, 0xF)] },
  { id := 0x013, ok := [(0, 0x7F)], reset := [0x27] },
  { id := 0x014, ok := [(1, 1)], act := true }]

/-- RING, block 0x15 (chapter 17). -/
def fieldsRing : List FieldRow := [
  { id := 0x001, ok := [(0, 1)], tick := true },
  { id := 0x002, ok := [(0, 1)] },
  { id := 0x003, ok := [(0, 1)], reset := [1] },
  { id := 0x004, ok := [(1, 1)], act := true },
  { id := 0x005, ok := [(0x800000, 0x87FFFC)], act := true },
  { id := 0x006, ok := [(1, 255)], reset := [10] },
  { id := 0x100, n := 64, ok := [(0, 383), (0x3FF, 0x3FF)], reset := [0x3FF], tick := true }]

/-- MIC, block 0x18 (chapter 18). -/
def fieldsMic : List FieldRow := [
  { id := 0x001, ok := [(0, 0xFFFFF)], tick := true },
  { id := 0x002, ok := [(0, 4)], reset := [2] },
  { id := 0x003, ok := [(0, 3)], reset := [1], tick := true },
  { id := 0x004, ok := [(0, 1)] },
  { id := 0x010, n := 4, ok := [(0, 42)] },
  { id := 0x020, ok := [(0, 3)] },
  { id := 0x021, n := 2, ok := [(0, 9)], reset := [4] },
  { id := 0x023, ok := [(0, 1)] },
  { id := 0x030, ok := [(0, 0xFFFFF)], reset := [0xF0] },
  { id := 0x032, ok := [(0, 24)], reset := [10] },
  { id := 0x100, n := 20, ok := [(0, 16000)], tick := true },
  { id := 0x200, n := 20, ok := [(0, 4000)], tick := true },
  { id := 0x300, n := 20, ok := [(-300, 300)], sx := 16, tick := true }]

/-- WAKE, block 0x19 (chapter 18). -/
def fieldsWake : List FieldRow := [
  { id := 0x001, n := 2, ok := [(0, 0), (4, 19)], tick := true },
  { id := 0x003, ok := [(0, 1)], reset := [1], tick := true },
  { id := 0x004, ok := [(0, 50)], reset := [20], tick := true },
  { id := 0x005, ok := [(3, 30)], reset := [10], tick := true },
  { id := 0x006, ok := [(0, 15)], reset := [5], tick := true },
  { id := 0x007, ok := [(5, 50)], reset := [20], tick := true },
  { id := 0x008, ok := [(1, 50)], reset := [5], tick := true }]

/-- VAULT, block 0x1A (chapter 18). -/
def fieldsVault : List FieldRow := [
  { id := 0x001, ok := [(1, 1)], act := true },
  { id := 0x002, ok := [(1, 255)], reset := [30] },
  { id := 0x003, ok := [(0, 0xFFFFFFFF)], act := true }]

/-- AADC, block 0x20 (chapter 19). -/
def fieldsAadc : List FieldRow := [{ id := 0x010, n := 4, ok := [(-8192, 8191)], sx := 16, tick := true }]

/-- PIPE, block 0x21 (chapter 19). -/
def fieldsPipe : List FieldRow := [{ id := 0x001, ok := [(0, 7)], reset := [3] }]

/-- SAR0 and SAR1, blocks 0x22 and 0x23 (chapter 19). -/
def fieldsSar : List FieldRow := [
  { id := 0x001, ok := [(0, 1)] },
  { id := 0x002, ok := [(0, 2)] },
  { id := 0x003, ok := [(0, 1)] },
  { id := 0x004, ok := [(1, 16)], reset := [1] },
  { id := 0x005, ok := [(0, 0), (5, 10000)], reset := [1000] },
  { id := 0x006, ok := [(1, 1)], act := true },
  { id := 0x007, ok := [(0, 15)], act := true },
  { id := 0x008, ok := [(0, 0xFFFF)] },
  { id := 0x010, n := 16, ok := [(0, 0xFF)] },
  { id := 0x030, ok := [(-64, 63)], sx := 8 },
  { id := 0x031, ok := [(-2048, 2047)], sx := 16 },
  { id := 0x100, n := 8, step := 16, ok := [(0, 1)] },
  { id := 0x101, n := 8, step := 16, ok := [(0, 15)] },
  { id := 0x102, n := 8, step := 16, ok := [(0, 4095)] },
  { id := 0x103, n := 8, step := 16, ok := [(0, 4095)], reset := [4095] },
  { id := 0x104, n := 8, step := 16, ok := [(0, 1)] },
  { id := 0x105, n := 8, step := 16, ok := [(1, 16)], reset := [1] }]

/-- DAC, block 0x28 (chapter 20). -/
def fieldsDac : List FieldRow := [
  { id := 0x001, ok := [(0, 3)] },
  { id := 0x002, n := 2, ok := [(0, 255)], tick := true },
  { id := 0x010, n := 2, ok := [(0, 1)] },
  { id := 0x012, n := 2, ok := [(24, 16777215)], reset := [24576] },
  { id := 0x014, n := 2, ok := [(0, 4095)], act := true },
  { id := 0x016, n := 2, ok := [(0, 4095)] }]

/-- TONE, block 0x29 (chapter 20); generator k has its fields from 0x100 + 16k. -/
def fieldsTone : List FieldRow := [
  { id := 0x100, n := 8, step := 16, ok := [(0, 1)], tick := true },
  { id := 0x101, n := 8, step := 16, ok := [(0, 768000)], reset := [16000], tick := true },
  { id := 0x102, n := 8, step := 16, ok := [(0, 768000)], reset := [16000], tick := true },
  { id := 0x103, n := 8, step := 16, ok := [(0, 255)], reset := [40], tick := true },
  { id := 0x104, n := 8, step := 16, ok := [(0, 3)] },
  { id := 0x105, n := 8, step := 16, ok := [(1, 65535)], reset := [1000] },
  { id := 0x106, n := 8, step := 16, ok := [(0, 65535)], reset := [1000] },
  { id := 0x107, n := 8, step := 16, ok := [(0, 255)] },
  { id := 0x108, n := 8, step := 16, ok := [(1, 65535)], reset := [1000] },
  { id := 0x109, n := 8, step := 16, ok := [(0, 1)] },
  { id := 0x10A, n := 8, step := 16, ok := [(0, 20)], reset := [5] }]

/-- HP, block 0x2A (chapter 20). -/
def fieldsHp : List FieldRow := [
  { id := 0x001, ok := [(0, 1)] },
  { id := 0x002, n := 2, ok := [(0, 255)], tick := true },
  { id := 0x004, ok := [(0, 2)] },
  { id := 0x005, ok := [(10, 1000)], reset := [100] },
  { id := 0x006, ok := [(0, 1)], reset := [1] }]

/-- JACK, block 0x2B (chapter 20). -/
def fieldsJack : List FieldRow := [
  { id := 0x001, ok := [(0, 1)] },
  { id := 0x002, ok := [(0, 1)] },
  { id := 0x003, ok := [(10, 500)], reset := [100] },
  { id := 0x004, ok := [(0, 1)], reset := [1] },
  { id := 0x005, ok := [(0, 1)] },
  { id := 0x006, ok := [(2, 100)], reset := [20] },
  { id := 0x010, n := 4, ok := [(0, 4095)], reset := [400, 800, 1400, 2400] }]

/-- SPK, block 0x30 (chapter 21). -/
def fieldsSpk : List FieldRow := [
  { id := 0x001, ok := [(0, 1)] },
  { id := 0x010, n := 2, ok := [(0, 1)] },
  { id := 0x012, n := 2, ok := [(0, 255)], tick := true },
  { id := 0x014, n := 2, ok := [(0, 48)] },
  { id := 0x016, n := 2, ok := [(0, 1)], reset := [1] },
  { id := 0x018, n := 2, ok := [(1, 1)], act := true },
  { id := 0x01A, n := 2, ok := [(0, 4095)], reset := [32] },
  { id := 0x01C, n := 2, ok := [(0, 4095)], reset := [512] },
  { id := 0x021, n := 4, ok := [(0, 48)], reset := [6, 12, 18, 24] }]

/-- BOOST, block 0x31 (Table 03.10). -/
def fieldsBoost : List FieldRow := [
  { id := 0x001, ok := [(0, 1)] },
  { id := 0x002, ok := [(0, 16)], reset := [8] },
  { id := 0x003, ok := [(0, 1)], reset := [1] }]

/-- GLINT, block 0x32 (chapter 22). -/
def fieldsGlint : List FieldRow := [
  { id := 0x010, n := 2, ok := [(0, 1)] },
  { id := 0x012, n := 2, ok := [(0, 127), (255, 255)] },
  { id := 0x014, n := 2, ok := [(0, 0xFFFFFFFF)], act := true },
  { id := 0x016, n := 2, ok := [(0, 15)] },
  { id := 0x018, n := 2, ok := [(0, 63)], reset := [12] },
  { id := 0x01A, n := 2, ok := [(0, 60)] },
  { id := 0x01C, n := 2, ok := [(0, 60)], reset := [40] },
  { id := 0x01E, n := 2, ok := [(0, 24)], reset := [6] },
  { id := 0x020, n := 2, ok := [(0, 30)], reset := [12] },
  { id := 0x022, n := 2, ok := [(0, 7)] },
  { id := 0x024, n := 2, ok := [(10, 1000)], reset := [100] }]

/-- HALO, block 0x38 (chapter 23). -/
def fieldsHalo : List FieldRow := [
  { id := 0x001, ok := [(0, 1)] },
  { id := 0x002, ok := [(0, 2)], reset := [2] },
  { id := 0x003, ok := [(0, 1)] },
  { id := 0x004, ok := [(0, 255)], reset := [255] },
  { id := 0x005, ok := [(1, 4)], reset := [1] },
  { id := 0x006, ok := [(0, 255)] },
  { id := 0x007, ok := [(1, 1)], act := true },
  { id := 0x008, ok := [(0, 1)], reset := [1] },
  { id := 0x010, n := 4, ok := [(0, 0xFFFFFFFF)], act := true },
  { id := 0x014, n := 4, ok := [(0, 65535)], reset := [1000] },
  { id := 0x018, n := 4, ok := [(0, 65535)] },
  { id := 0x020, n := 24, ok := [(0, 63)], reset := [20] }]

/-- GPIO, block 0x39 (chapter 23). -/
def fieldsGpio : List FieldRow := [
  { id := 0x000, n := 16, ok := [(0, 3)] },
  { id := 0x010, n := 16, ok := [(0, 2)] },
  { id := 0x020, n := 16, ok := [(0, 1)] },
  { id := 0x030, n := 16, ok := [(0, 3)] },
  { id := 0x040, ok := [(0, 0xFFFF)] },
  { id := 0x041, n := 2, ok := [(0, 0xFFFF)], act := true },
  { id := 0x050, ok := [(2, 100)], reset := [20] },
  { id := 0x051, ok := [(0, 0xFF)], reset := [0xFF] }]

/-- EVT, block 0x3F (Table 08.12). -/
def fieldsEvt : List FieldRow :=
  [{ id := 0x100, n := 64, ok := [(0, 0xFFFFFFFF)], reset := [0xFFFFFFFF] }]

/-- The field table of a block of Table 00.6; LCY has no configuration field. -/
def fieldsOf (blk : Nat) : List FieldRow :=
  match blk with
  | 0x01 => fieldsClk | 0x02 => fieldsPwr | 0x03 => fieldsRst | 0x05 => fieldsTwh | 0x06 => fieldsTwc
  | 0x08 => fieldsLane | 0x09 => fieldsMem | 0x0A => fieldsStrm | 0x0B => fieldsBrine
  | 0x10 => fieldsSp | 0x11 => fieldsSp | 0x12 => fieldsSp | 0x13 => fieldsSp
  | 0x14 => fieldsUsb | 0x15 => fieldsRing | 0x18 => fieldsMic | 0x19 => fieldsWake | 0x1A => fieldsVault
  | 0x20 => fieldsAadc | 0x21 => fieldsPipe | 0x22 => fieldsSar | 0x23 => fieldsSar
  | 0x28 => fieldsDac | 0x29 => fieldsTone | 0x2A => fieldsHp | 0x2B => fieldsJack
  | 0x30 => fieldsSpk | 0x31 => fieldsBoost | 0x32 => fieldsGlint | 0x38 => fieldsHalo | 0x39 => fieldsGpio
  | 0x3F => fieldsEvt
  | _ => []

/-- R12, Table 00.6: the block IDs that are listed. -/
def blockListed (blk : Nat) : Bool :=
  [0x01, 0x02, 0x03, 0x04, 0x05, 0x06, 0x08, 0x09, 0x0A, 0x0B, 0x10, 0x11, 0x12, 0x13, 0x14, 0x15, 0x18, 0x19, 0x1A,
   0x20, 0x21, 0x22, 0x23, 0x28, 0x29, 0x2A, 0x2B, 0x30, 0x31, 0x32, 0x38, 0x39, 0x3F].contains blk

/-- The row stands for field `fid`. -/
def FieldRow.has (r : FieldRow) (fid : Nat) : Bool :=
  r.id ≤ fid && (fid - r.id) % r.step == 0 && (fid - r.id) / r.step < r.n

/-- The row of a field, if the block has that field. -/
def fieldRow (blk fid : Nat) : Option FieldRow := (fieldsOf blk).find? (·.has fid)

/-- A two's complement number of width `w`, or the number itself for width 0. -/
def sxOf (w v : Nat) : Int := if w = 0 then v else if v < 2 ^ (w - 1) then v else (v : Int) - 2 ^ w

/-- The value lies in the row's range; a value wider than the field does not (R241). -/
def FieldRow.accepts (r : FieldRow) (v : Nat) : Bool :=
  (r.sx == 0 || v < 2 ^ r.sx) && r.ok.any fun p => p.1 ≤ sxOf r.sx v && sxOf r.sx v ≤ p.2

/-- The reset value of a field under the key `blk * 0x1000 + fid`; 0 where there is no such field. -/
def fieldReset (key : Nat) : Nat :=
  match fieldRow (key / 0x1000) (key % 0x1000) with
  | some r => r.reset.getD ((key % 0x1000 - r.id) / r.step) (r.reset.getLastD 0)
  | none => 0

/-- Whether a field's change rides the next tick (Table 01.4). -/
def fieldTick (key : Nat) : Bool :=
  match fieldRow (key / 0x1000) (key % 0x1000) with
  | some r => r.tick
  | none => false

end Sys2Proof.Machine
end

