-- ==== Sys2Proof/Machine/Ops.lean ====
section
/-! DEFINITION. The named operations that every family shares: sparse maps, bits, events, configuration fields in force
and pending, open values, and the assertion of a reset. -/

namespace Sys2Proof.Machine

/-! ### Sparse maps -/

/-- What key `k` holds; `d` is what an unlisted key reads as. -/
def smGet (d : α) (k : Nat) : SMap α → α
  | [] => d
  | (k', v) :: m => if k = k' then v else smGet d k m

/-- Writes `v` at key `k`, keeping the canonical form. -/
def smSet [DecidableEq α] (d : α) (k : Nat) (v : α) : SMap α → SMap α
  | [] => if v = d then [] else [(k, v)]
  | (k', v') :: m =>
    if k < k' then (if v = d then (k', v') :: m else (k, v) :: (k', v') :: m)
    else if k = k' then (if v = d then m else (k, v) :: m)
    else (k', v') :: smSet d k v m

/-- Every key from `lo` on is above `lo`, in rising order, and no entry holds the default. -/
def smWfFrom [DecidableEq α] (d : Nat → α) : Nat → SMap α → Bool
  | _, [] => true
  | lo, (k, v) :: m => decide (lo ≤ k) && decide (v ≠ d k) && smWfFrom d (k + 1) m

/-- The canonical form: keys strictly rising, no entry equal to its default. -/
def smWf [DecidableEq α] (d : Nat → α) (m : SMap α) : Bool := smWfFrom d 0 m

/-- Forgets every key from `lo` to below `hi`. -/
def smDrop (lo hi : Nat) (m : SMap α) : SMap α := m.filter fun p => !(lo ≤ p.1 && p.1 < hi)

/-! ### Small helpers -/

/-- The `k`-th element of a list with element `k` replaced. -/
def vset {n : Nat} (v : Vector α n) (k : Nat) (x : α) : Vector α n := v.setIfInBounds k x

/-- Element `k` of a vector, `d` out of range. -/
def vget {n : Nat} (v : Vector α n) (k : Nat) (d : α) : α := v.toArray.getD k d

/-- A bit vector with bit `k` set to `b`. -/
def setBit {w : Nat} (x : BitVec w) (k : Nat) (b : Bool) : BitVec w :=
  if b then x ||| BitVec.ofNat w (2 ^ k) else x &&& ~~~BitVec.ofNat w (2 ^ k)

/-- Field `[hi:lo]` of a word as a number. -/
def bits (w : Word) (hi lo : Nat) : Nat := (w.toNat / 2 ^ lo) % 2 ^ (hi + 1 - lo)

/-- A counter that saturates at `top`. -/
def satAdd (top a b : Nat) : Nat := min top (a + b)

/-- A list with element `k` replaced. -/
def lset (l : List α) (k : Nat) (x : α) : List α := l.set k x

/-! ### Events (R179) -/

/-- An occurrence of event `n`: its latch sets; if it was set already its group's REPEAT bit sets. -/
def raise (n : Nat) (s : State) : State :=
  { s with evt := {
      latch := setBit s.evt.latch n true
      repeats := if s.evt.latch.getLsbD n then setBit s.evt.repeats (n / 32) true else s.evt.repeats } }

/-- Raises event `n` when `c` holds. -/
def raiseIf (c : Bool) (n : Nat) (s : State) : State := if c then raise n s else s

/-- EVT.LATCH_g. -/
def latchWord (g : Nat) (s : State) : Word := (s.evt.latch >>> (32 * g)).setWidth 32

/-! ### Open values -/

/-- The next value the spec leaves open, and the state that has taken it. -/
def takeFree (s : State) : Word × State := (Config.freeWord s.free, { s with free := s.free + 1 })

/-- A status code of Table 00.5 from BADOP to ABSENT, where the spec names a failure and not its code. -/
def takeCode (s : State) : Nat × State := ((takeFree s).1.toNat % 14 + 1, (takeFree s).2)

/-! ### Configuration fields -/

/-- The key of a field. -/
def fkey (blk fid : Nat) : Nat := blk * 0x1000 + fid

/-- The value in force under a key. -/
def fldK (key : Nat) (s : State) : Nat := smGet (fieldReset key) key s.cfg

/-- The value of a field in force. -/
def fld (blk fid : Nat) (s : State) : Nat := fldK (fkey blk fid) s

/-- Puts a value in force. -/
def setFldK (key val : Nat) (s : State) : State := { s with cfg := smSet (fieldReset key) key val s.cfg }

/-- Puts a field's value in force. -/
def setFld (blk fid val : Nat) (s : State) : State := setFldK (fkey blk fid) val s

/-- The value a field will hold once the committed changes are applied. -/
def pendK (key : Nat) (s : State) : Nat :=
  s.flow.foldl (fun v c => match c with | .field k v' => if k = key then v' else v | _ => v) (fldK key s)

/-- The pending value of a field. -/
def pend (blk fid : Nat) (s : State) : Nat := pendK (fkey blk fid) s

/-- Adds a committed change that waits for the next tick (R19). -/
def addFlow (c : FlowChange) (s : State) : State := { s with flow := s.flow ++ [c] }

/-- Commits a value: in force at once, or at the next tick (Table 01.4, R82). -/
def commitFld (blk fid val : Nat) (s : State) : State :=
  if fieldTick (fkey blk fid) then addFlow (.field (fkey blk fid) val) s else setFld blk fid val s

/-- The signed value of a two's complement field of width `w`, in force. -/
def fldS (w blk fid : Nat) (s : State) : Int := sxOf w (fld blk fid s)

/-- Fields of a block return to their reset values, and changes of them that wait are dropped (R112). -/
def resetFields (blk : Nat) (s : State) : State :=
  { s with
    cfg := smDrop (blk * 0x1000) (blk * 0x1000 + 0x1000) s.cfg
    flow := s.flow.filter fun c => match c with | .field k _ => k / 0x1000 != blk | _ => true }

/-- CLK.MIXRATE and CLK.FRAMEMODE are the two timing fields. -/
def timingKey (key : Nat) : Bool := key == 0x1010 || key == 0x1011

/-- CLK.FRAME_STATUS.TIMING_PENDING: the pending pair differs from the pair in force (R91). -/
def timingPending (s : State) : Bool :=
  pend 0x01 0x010 s != fld 0x01 0x010 s || pend 0x01 0x011 s != fld 0x01 0x011 s

/-- CLK.FRAME_STATUS.FLOW_PENDING: some other committed change waits (R19). DEDUCED: a lane remap that waits for its tick is no
committed change, so it leaves the bit 0, though Table 01.4 lists it (assumption log 23). -/
def flowPending (s : State) : Bool :=
  s.flow.any fun c => match c with | .field k _ => !timingKey k | _ => true

/-! ### The frame (R14, Table 01.2) -/

/-- Samples per frame at a mix rate and frame mode. -/
def samplesOf (rate short : Nat) : Nat :=
  if short = 1 then 16 else match rate with | 0 => 16 | 1 => 32 | 2 => 48 | _ => 96

/-- F: samples per stream in the present frame. -/
def frameLen (s : State) : Nat := samplesOf (fld 0x01 0x010 s) (fld 0x01 0x011 s)

/-- Lane cycles of the present frame. -/
def frameCycles (s : State) : Nat := if fld 0x01 0x011 s = 1 then 98304 else 294912

/-- The mix rate in Hz. -/
def mixHz (code : Nat) : Nat := match code with | 0 => 16000 | 1 => 32000 | 2 => 48000 | _ => 96000

/-! ### Where the machine stands -/

/-- Internal reset is released: the boot ROM or the image runs. -/
def live (s : State) : Bool := s.rst.phase == .running

/-- The image runs: STAGE reads RUNNING. -/
def running (s : State) : Bool := live s && s.rst.stage == .running

/-- Frame ticks run: RUN mode after handover. -/
def ticking (s : State) : Bool := running s && s.sup.modeCur == .run && !s.sup.waking

/-- The life-cycle state code of Table 06.1. -/
def lifeCode : Life → Nat
  | .fab => 1 | .develop => 2 | .sealed => 3 | .ret => 4 | .void => 15

/-! ### Digest, responses and claims -/

/-- R180: digest bit `g`: some enabled event of the group is latched. -/
def digestBit (g : Nat) (s : State) : Bool := latchWord g s &&& BitVec.ofNat 32 (fld 0x3F (0x100 + g) s) != 0

/-- R180: EVT.DIGEST. -/
def evtDigest (s : State) : BitVec 64 := (List.range 64).foldl (fun d g => setBit d g (digestBit g s)) 0

/-- Table 08.9: a response word; while BUSY its lower fields read 0. -/
def mbxWord (m : MbxState) : Word :=
  let top := b2n m.busy * 2 ^ 31 + b2n m.valid * 2 ^ 30 + b2n m.dbLost * 2 ^ 29
  if m.busy then BitVec.ofNat 32 top
  else BitVec.ofNat 32 (top + m.tag.toNat * 0x10000 + m.index % 16 * 0x1000 + m.sub % 16 * 0x100 + m.code % 0x100)

/-- R178: the claims of a source end, other than by reset or RELEASE; `bit` is its bit of DROPPED. -/
def dropClaims (src : Source) (bit : Nat) (s : State) : State :=
  if s.cmd.claims.any (·.1 == src) then
    raise 0x40B { s with
      cmd.claims := s.cmd.claims.filter (·.1 != src), cmd.dropped := setBit s.cmd.dropped bit true }
  else s

/-- R173: the words of the blocks in their perform phase. -/
def performing (s : State) : List StwOp :=
  (s.cmd.jobs.filter (·.copies.isEmpty)).flatMap fun j => j.ops.map (·.2)

/-- A CALRUN of kind `k` is being performed, on unit `u` if one is named. -/
def calRunning (k : Nat) (u : Option Nat) (s : State) : Bool :=
  (performing s).any fun o => match o with
    | .calrun k' _ u' => k' == k && (match u with | some v => u' == v | none => true)
    | _ => false

/-- R506, R504: the blocks of the sources that `gone` names are abandoned while they perform; the response of a committed
one is not sent. -/
def abandonJobs (gone : Source → Bool) (s : State) : State :=
  { s with cmd.jobs := (s.cmd.jobs.filter fun j => !(gone j.src && j.copies.isEmpty)).map fun j =>
      if gone j.src then { j with mute := true } else j }

/-- R36: the configurable balls of `mask`, by fuse index, are assigned. -/
def assignBalls (mask : Nat) (s : State) : State :=
  { s with pin.assigned := s.pin.assigned ||| BitVec.ofNat 47 mask }

/-! ### Reset (R96 to R100, R114) -/

/-- The cause code of Table 05.1. -/
def causeCode : ResetCause → Nat
  | .none => 0 | .bor => 1 | .rstN => 2 | .regFail => 3 | .clkFail => 4 | .thermal => 5 | .wdog => 6 | .soft => 7
  | .debug => 8 | .lcy => 9 | .shutdownWake => 10

/-- R114: of two causes in one cycle the lower rank is recorded. -/
def causeRank : ResetCause → Nat
  | .bor => 0 | .regFail => 1 | .clkFail => 2 | .thermal => 3 | .rstN => 4 | .debug => 5 | .wdog => 6 | .lcy => 7
  | .soft => 8 | .shutdownWake => 9 | .none => 10

/-- R114: the cause recorded when `same`, if any, asserts in the same cycle. -/
def causeOf (c : ResetCause) (same : Option ResetCause) : ResetCause :=
  match same with | some d => if causeRank d < causeRank c then d else c | none => c

end Sys2Proof.Machine
end

