-- ==== Sys2Proof/Machine/Mem.lean ====
section
/-! DEFINITION. 13_memory_banks: the banks and their power, bytes and words of memory, collisions, the Glacier write
queue, the scrubbers' bookkeeping. Who may reach what is in Access.lean. -/

namespace Sys2Proof.Machine

/-! ### Banks (R22, R267) -/

/-- The MEM unit whose bank holds address `a`; none outside every bank. -/
def memUnit (a : Nat) : Option Nat :=
  if a < 0x440000 then some (a / 0x40000)
  else if 0x800000 ≤ a ∧ a < 0x880000 then some 17
  else if 0x1000000 ≤ a ∧ a < 0x1100000 then some 18
  else if 0x1800000 ≤ a ∧ a < 0x1880000 then some 19
  else if 0x1C00000 ≤ a ∧ a < 0x1C40000 then some 20
  else if 0x2000000 ≤ a ∧ a < 0x2100000 then some 21
  else none

/-- First address and size of a unit's bank (Table 13.1). -/
def unitRange (u : Nat) : Nat × Nat :=
  if u ≤ 16 then (u * 0x40000, 0x40000)
  else match u with
    | 17 => (0x800000, 0x80000) | 18 => (0x1000000, 0x100000) | 19 => (0x1800000, 0x80000)
    | 20 => (0x1C00000, 0x40000) | 21 => (0x2000000, 0x100000) | _ => (0, 0)

/-- The address lies in the register space (Table 01.5). -/
def isReg (a : Nat) : Bool := 0x40000000 ≤ a && a < 0x40040000

/-- The quarter of its bank that holds `a`: a 64 KiB quarter of a lane bank, else the whole bank. -/
def quarterOf (u a : Nat) : Nat := if u ≤ 16 then a % 0x40000 / 0x10000 else 0

/-- The state BANKPWR has set. -/
def bankSet (u q : Nat) (s : State) : BankPower := smGet .on (4 * u + q) s.mem.power

/-- R272, R275: the state in force: a mode other than RUN takes banks to RETAIN, SHUTDOWN to OFF. -/
def bankNow (u q : Nat) (s : State) : BankPower :=
  match s.sup.modeCur with
  | .run => bankSet u q s
  | .listen => if u = 20 ∨ bankSet u q s = .off then bankSet u q s else .retain
  | .standby => if bankSet u q s = .off then .off else .retain
  | .shutdown => .off

/-- R273: a quarter that is changing state counts as not ON. The Glacier store has no power states. -/
def quarterOn (u q : Nat) (s : State) : Bool :=
  u == 21 || (bankNow u q s == .on && !s.mem.transit.getLsbD (4 * u + q))

/-- The quarter that holds `a` is ON. -/
def addrOn (a : Nat) (s : State) : Bool :=
  match memUnit a with | some u => quarterOn u (quarterOf u a) s | none => false

/-- Every quarter that the bytes `[a, a + len)` touch is ON. -/
def rangeOn (a len : Nat) (s : State) : Bool :=
  match memUnit a with
  | some u => (List.range 4).all fun q =>
      !((quarterOf u a ≤ q && q ≤ quarterOf u (a + len - 1))) || quarterOn u q s
  | none => false

/-- R274: an access met a quarter that is not ON. -/
def notOn (a : Nat) (s : State) : State := raise 0x431 { s with mem.errAddr := BitVec.ofNat 32 a }

/-! ### Bytes and words -/

/-- The byte at `a`. -/
def byteAt (a : Nat) (s : State) : Byte := smGet 0 a s.mem.cells

/-- Writes the byte at `a`. -/
def setByte (a : Nat) (b : Byte) (s : State) : State := { s with mem.cells := smSet 0 a b s.mem.cells }

/-- The little-endian word at `a`. -/
def wordAt (a : Nat) (s : State) : Word := byteAt (a + 3) s ++ byteAt (a + 2) s ++ byteAt (a + 1) s ++ byteAt a s

/-- The little-endian halfword at `a`. -/
def halfAt (a : Nat) (s : State) : BitVec 16 := byteAt (a + 1) s ++ byteAt a s

/-- The bytes of a word, least significant first. -/
def leBytes (w : Word) : List Byte :=
  [w.setWidth 8, (w >>> 8).setWidth 8, (w >>> 16).setWidth 8, (w >>> 24).setWidth 8]

/-- Writes bytes upward from `a`. -/
def setBytes (a : Nat) (bs : List Byte) (s : State) : State :=
  match bs with | [] => s | b :: bs => setBytes (a + 1) bs (setByte a b s)

/-- Writes the word at `a`. -/
def setWord (a : Nat) (w : Word) (s : State) : State := setBytes a (leBytes w) s

/-- Writes words upward from `a`. -/
def setWords (a : Nat) (ws : List Word) (s : State) : State :=
  match ws with | [] => s | w :: ws => setWords (a + 4) ws (setWord a w s)

/-- `n` words upward from `a`. -/
def wordsAt (a n : Nat) (s : State) : List Word := (List.range n).map fun k => wordAt (a + 4 * k) s

/-- `n` bytes upward from `a`. -/
def bytesAt (a n : Nat) (s : State) : List Byte := (List.range n).map fun k => byteAt (a + k) s

/-- The word at `a` as the steward and the copy engines read an image, a record or a table: in a bank that is not ON the read
is answered with an error response (R274), and what it returns is an open value (assumption log 48). -/
def srcWord (a : Nat) (s : State) : Word := if addrOn a s then wordAt a s else Config.freeWord ((s.free + 1) * 2 ^ 32 + a)

/-- `n` such words upward from `a`. -/
def srcWords (a n : Nat) (s : State) : List Word := (List.range n).map fun k => srcWord (a + 4 * k) s

/-- The bytes of `n` such words. -/
def srcBytes (a n : Nat) (s : State) : List Byte := (srcWords a n s).flatMap leBytes

/-- R274: a source that starts at `a` is read. -/
def noteSource (a : Nat) (s : State) : State := if addrOn a s then s else notOn a s

/-- Zeroes the bytes from `lo` to below `hi`. -/
def zeroRange (lo hi : Nat) (s : State) : State := { s with mem.cells := smDrop lo hi s.mem.cells }

/-- R101: every RAM bank is zeroed; the Glacier store is kept. -/
def zeroRam (s : State) : State := zeroRange 0 0x2000000 s

/-- Writes the bytes of `new` whose enable bit is set over `old`. -/
def mergeBytes (old new : Word) (be : BitVec 4) : Word :=
  let m (k : Nat) (v : Word) : Word := if be.getLsbD k then v else 0
  let mask : Word := m 0 0xFF ||| m 1 0xFF00 ||| m 2 0xFF0000 ||| m 3 0xFF000000
  (new &&& mask) ||| (old &&& ~~~mask)

/-! ### Collisions (R269 to R271) -/

/-- R271: one COLLIDE drop. -/
def collide (s : State) : State :=
  raiseIf (s.mem.collide + 1 == fld 0x09 0x001 s) 0x430 { s with mem.collide := satAdd 0xFFFF s.mem.collide 1 }

/-! ### The Glacier store (R278 to R283) -/

/-- The value queued for the word at `a`, if any. -/
def glQueued (a : Nat) (s : State) : Option Word := (s.mem.glQueue.find? (·.1 == a)).map (·.2)

/-- A read of a Glacier word returns the queued value if there is one (R279). -/
def glWord (a : Nat) (s : State) : Word := (glQueued a s).getD (wordAt a s)

/-- Programs one word: it takes its value with fresh ECC. -/
def glProgramWord (e : Nat × Word) (s : State) : State :=
  { setWord e.1 e.2 s with mem.glBad := smSet false e.1 false s.mem.glBad }

/-- R279: programs the queued words of the row of the oldest one together, in the order they were queued. -/
def glProgramRow (s : State) : State :=
  match s.mem.glQueue with
  | [] => s
  | (a, _) :: _ =>
    let row := s.mem.glQueue.filter fun e => e.1 / 32 == a / 32
    let s' := row.foldl (fun t e => glProgramWord e t) s
    { s' with mem.glQueue := s.mem.glQueue.filter fun e => e.1 / 32 != a / 32 }

/-- R280, R102: a reset interrupts the row being programmed: each of its words is new or old, which the spec leaves
open; the words still waiting are discarded. -/
def glInterrupt (s : State) : State :=
  match s.mem.glQueue with
  | [] => s
  | (a, _) :: _ =>
    let (w, s1) := takeFree s
    let row := (s.mem.glQueue.filter fun e => e.1 / 32 == a / 32).zipIdx
    let s2 := row.foldl (fun t e => if w.getLsbD e.2 then glProgramWord e.1 t else t) s1
    { s2 with mem.glQueue := [] }

/-- A word enters the write queue, merged with a queued write of the same word; a full queue first programs a row. -/
def glPush (a : Nat) (w : Word) (s : State) : State :=
  if s.mem.glQueue.any (·.1 == a) then
    { s with mem.glQueue := s.mem.glQueue.map fun e => if e.1 == a then (a, w) else e }
  else
    let s := if 16 ≤ s.mem.glQueue.length then glProgramRow s else s
    { s with mem.glQueue := s.mem.glQueue ++ [(a, w)] }

/-- R281: the segment of a Glacier address is write-protected. -/
def glProtected (a : Nat) (s : State) : Bool := (fld 0x09 0x011 s).testBit ((a - 0x2000000) / 0x10000)

/-- R281: a write into a protected segment is dropped. -/
def glDenied (s : State) : State := raise 0x436 { s with mem.glWprotHit := true }

/-- R279, R281: a write of the bytes of `w` that `be` enables to the Glacier word at `a`. -/
def glWrite (a : Nat) (w : Word) (be : BitVec 4) (s : State) : State :=
  if glProtected a s then glDenied s else glPush a (mergeBytes (glWord a s) w be) s

/-- R121: a life-cycle erase of the whole store; the queue is empty by then. -/
def glErase (s : State) : State :=
  { zeroRange 0x2000000 0x2100000 s with mem.glQueue := [], mem.glBad := [] }

/-- R279: the controller programs the queued words of one row. -/
def execGlacierRowProgram (s : State) : Out := .next (glProgramRow s)

/-- R282: the check of a Glacier word found an uncorrectable error. -/
def glUncorr (a : Nat) (s : State) : State :=
  raise 0x434 { s with
    mem.glUncorr := satAdd 0xFFFF s.mem.glUncorr 1, mem.glUncorrAddr := BitVec.ofNat 32 a
    mem.glBad := smSet false a true s.mem.glBad }

/-- R282: a single-bit error of the word at `a` was corrected; the rewrite is queued only if a place is free and no
write of the word is queued. -/
def glCorrected (a : Nat) (s : State) : State :=
  let s := { s with mem.glCorr := satAdd 0xFFFF s.mem.glCorr 1 }
  if s.mem.glQueue.length < 16 && !s.mem.glQueue.any (·.1 == a) then glPush a (wordAt a s) s else s

/-- R282: a read of the Glacier word at `a` whose ECC check finds `e`; none is an error response. A queued word is
read from the queue and not checked. -/
def glRead (a : Nat) (e : Ecc) (s : State) : Option Word × State :=
  match glQueued a s with
  | some w => (some w, s)
  | none =>
    if smGet false a s.mem.glBad || e == .uncorr then (none, glUncorr a s)
    else if e == .single then (some (wordAt a s), glCorrected a s)
    else (some (wordAt a s), s)

/-- R283: the scrubber reads the word at its position, ending the pass at the end of the store; it runs in RUN only and
while a period is set. A word with a queued write is passed over. The read of an image has no command that carries what its
checks find, so this one does: a corrected error at once, a word that has become uncorrectable for the read that follows
(R282, assumption log 48). -/
def execGlacierScrubRead (found : GlFind) (s : State) : Out :=
  .next (
    match found with
    | .scrub e =>
      if !(live s && s.sup.modeCur == .run) || fld 0x09 0x010 s == 0 then s else
      let a := 0x2000000 + 4 * s.mem.scrubPos
      let s := (glRead a e s).2
      if s.mem.scrubPos + 1 < 0x40000 then { s with mem.scrubPos := s.mem.scrubPos + 1 }
      else raise 0x435 { s with mem.scrubPos := 0, mem.scrubPasses := satAdd 0xFF s.mem.scrubPasses 1 }
    | .image a e =>
      let x := a.toNat / 4 * 4
      if !live s || !(0x2000000 ≤ x && x < 0x2100000) || (glQueued x s).isSome || smGet false x s.mem.glBad then s else
      match e with
      | .clean => s
      | .single => glCorrected x s
      | .uncorr => { s with mem.glBad := smSet false x true s.mem.glBad })

/-! ### Power transitions (R273, R285) -/

/-- R273: a quarter's change of state ends. -/
def execBankTransitionDone (u : Fin 21) (q : Fin 4) (s : State) : Out :=
  .next { s with mem.transit := setBit s.mem.transit (4 * u.val + q.val) false }

/-- The address range of quarter `q` of unit `u`; a bank that is no lane bank is one whole. -/
def quarterRange (u q : Nat) : Nat × Nat :=
  let (b, n) := unitRange u
  if u ≤ 16 then (b + q * 0x10000, b + (q + 1) * 0x10000) else (b, b + n)

/-- Code regions that touch `[lo, hi)` lose their verification (R193). -/
def unverify (lo hi : Nat) (s : State) : State :=
  { s with lane.regions := s.lane.regions.filter fun r => !(r.base < hi && lo < r.base + 4 * r.words) }

/-- R273, R285: the bank is zeroed: nothing that Brine or the port engine left in it can be read any more. -/
def freshBank (u : Nat) (s : State) : State :=
  match u with
  | 18 => { s with mem.brineOpen := false }
  | 19 => { s with mem.portUsed := 0 }
  | _ => s

/-- R273, R274: quarter `q` of unit `u` starts to change to `st`. Leaving OFF, or going OFF, the contents are gone. -/
def setQuarter (u q : Nat) (st : BankPower) (s : State) : State :=
  let old := bankSet u q s
  if old = st then s else
  let (lo, hi) := quarterRange u q
  let s := { s with mem.power := smSet .on (4 * u + q) st s.mem.power
                    mem.transit := setBit s.mem.transit (4 * u + q) true }
  let s := if old = .off ∨ st = .off then freshBank u (zeroRange lo hi s) else s
  if old = .on then unverify lo hi s else s

/-- R285, Table 13.8: BRESET of a RAM bank: every quarter ON and zeroed, code regions unverified. -/
def memBreset (u : Nat) (s : State) : State :=
  let (b, n) := unitRange u
  let s := freshBank u (zeroRange b (b + n) (unverify b (b + n) s))
  let s := { s with mem.power := smDrop (4 * u) (4 * u + 4) s.mem.power }
  { s with mem.transit := (List.range 4).foldl (fun t q => setBit t (4 * u + q) false) s.mem.transit }

/-- Table 13.8: BRESET of the Glacier controller. -/
def glBreset (s : State) : State := { s with mem.glWprotHit := false }

/-! ### The port buffer bank (R286, Table 13.14) -/

/-- The port with field EN at `blk` is enabled, in force or pending. -/
def portEn (blk : Nat) (s : State) : Bool := fld blk 0x001 s == 1 || pend blk 0x001 s == 1

/-- Table 13.14: the regions of SP0 to SP3, USB and RING, as first and end addresses. -/
def portRanges (k : Nat) : List (Nat × Nat) :=
  if k < 4 then [(0x1800000 + k * 0x400, 0x1800400 + k * 0x400)]
  else if k = 4 then [(0x1801000, 0x1801300), (0x1802000, 0x1804000), (0x1806000, 0x1806800)]
  else [(0x1804000, 0x1805800)]

/-- The occupied regions of the port buffer bank, the reserved ranges first. -/
def portRegions (s : State) : List (Nat × Nat) :=
  [(0x1801300, 0x1802000), (0x1805800, 0x1806000), (0x1806800, 0x1810000)]
  ++ (List.range 6).flatMap fun k => if portEn (0x10 + k) s then portRanges k else []

/-- The port engine uses the regions of port `k` from the commit of its EN = 1 on. -/
def occupyPort (k : Nat) (s : State) : State :=
  { s with
    mem.portUsed := setBit s.mem.portUsed k true
    mem.known := (portRanges k).foldl (fun m r => smDrop r.1 r.2 m) s.mem.known }

/-- The bytes `[a, a + len)` touch an occupied region. -/
def portOccupied (a len : Nat) (s : State) : Bool := (portRegions s).any fun r => a < r.2 && r.1 < a + len

/-- R204, R244: the bytes `[a, a + len)` lie in the steward bank, or in a part of the port buffer bank that no enabled
port's queue occupies. -/
def sourceOk (a len : Nat) (s : State) : Bool :=
  (0x800000 ≤ a && a + len ≤ 0x880000) || (0x1800000 ≤ a && a + len ≤ 0x1880000 && !portOccupied a len s)

/-- R286, R301: what the word at `a` holds is not given: a region the port engine occupies or has used, or the store that
Brine has used, where nothing has been written since. -/
def ramOpen (a : Nat) (s : State) : Bool :=
  portOccupied a 4 s
    || (((s.mem.brineOpen && 0x1000000 ≤ a && a < 0x1100000)
        || (List.range 6).any fun k => s.mem.portUsed.getLsbD k && (portRanges k).any fun r => r.1 ≤ a && a < r.2)
      && !smGet false a s.mem.known)

/-- The word at `a` of a RAM bank as the system port reads it. -/
def ramWord (a : Nat) (s : State) : Word × State := if ramOpen a s then takeFree s else (wordAt a s, s)

/-- A system-port write of the bytes of `w` that `be` enables. -/
def ramWrite (a : Nat) (w : Word) (be : BitVec 4) (s : State) : State :=
  let (old, s) := if be = 0xF then (0, s) else ramWord a s
  { setWord a (mergeBytes old w be) s with mem.known := smSet false a true s.mem.known }

/-- Words that a copy writes upward from `a`. -/
def ramWriteWords (a : Nat) (ws : List Word) (s : State) : State :=
  { setWords a ws s with
    mem.known := (List.range ws.length).foldl (fun m i => smSet false (a + 4 * i) true m) s.mem.known }

/-! ### Reset (R99, R100) -/

/-- R121, R507: the reset comes during steps 6 or 7 of a transition that erases: its marker has been written. -/
def markErase (late : Bool) (s : State) : State :=
  if !late then s else
  match s.lcy.quiet with
  | some .toReturn => { s with lcy.eraseMarker := some .ret }
  | some .toVoid => { s with lcy.eraseMarker := some .void }
  | _ => s

/-- R121: a reset meets a transition that erases; the spec leaves open whether its steps 6 and 7 had begun. -/
def openErase (s : State) : State :=
  if s.lcy.quiet == some .toReturn || s.lcy.quiet == some .toVoid then
    let (w, s) := takeFree s
    markErase (w.getLsbD 0) s
  else s

/-- R99, R100, Table 05.2: any taken reset is asserted. Everything returns to its reset value but the keep domain, the
fuse map, the pin-state shadow, the Glacier store, and the contents of the RAM banks, which step 4 zeroes (R101).
A thermal hold stands (R97), and an erase under way leaves its marker (R121). KEEP_LOST stands while its event is owed.
The queue of commands and the counter of open values belong to the model. -/
def assertReset (c : ResetCause) (s : State) : State :=
  let s := glInterrupt (openErase s)
  { State.reset with
    sup := { State.reset.sup with
      vsupUp := s.sup.vsupUp, keepOk := s.sup.keepOk, keepCharged := s.sup.keepCharged, wakeTimerOn := s.sup.wakeTimerOn
      nowMv := s.sup.nowMv, vcoreOk := s.sup.vcoreOk, vanaOk := s.sup.vanaOk }
    rst := { State.reset.rst with
      phase := .held, capCause := c, count := satAdd 0xFFFF s.rst.count 1, rstnLow := s.rst.rstnLow
      thermHold := s.rst.thermHold, keepLost := s.rst.keepLostDue, keepLostDue := s.rst.keepLostDue }
    lcy := { s.lcy with eraseResumed := false, quiet := none }
    pin := { s.pin with assigned := 0 }
    mem := { State.reset.mem with cells := s.mem.cells, glBad := s.mem.glBad }
    gpio := { level := s.gpio.level }
    wake := { pttLow := s.wake.pttLow, pttArmed := s.wake.pttArmed }
    twc := { sclLow := s.twc.sclLow, sdaLow := s.twc.sdaLow }
    pending := s.pending
    free := s.free }

/-- R49, R37: VSUP is below the BOR threshold; the pin-state shadow is lost. -/
def unpower (s : State) : State :=
  { s with
    sup.vsupUp := false, sup.keepCharged := false, rst.phase := .unpowered, rst.thermHold := false
    pin.shadow := [], pin.valid := false, pin.loaded := false }

/-- R97, R98, R114: a reset of cause `c` is asserted, and with it `same`, if any: the cause is the first of R114's list, and
each of the two holds the part as it does alone. -/
def assertWith (c : ResetCause) (same : Option ResetCause) (s : State) : State :=
  let has (d : ResetCause) : Bool := c == d || same == some d
  let t := assertReset (causeOf c same) s
  let t := { t with rst.thermHold := t.rst.thermHold || has .thermal, rst.rstnLow := t.rst.rstnLow || has .rstN }
  if has .bor then unpower t else t

end Sys2Proof.Machine
end

