-- ==== Sys2Proof/Machine/Strm.lean ====
section
/-! DEFINITION. 14_streams_and_brine and the stream side of chapters 01 and 11: descriptors, routes, the frame
exchange, Brine's totals and returns. -/

namespace Sys2Proof.Machine

/-- Stream `n`. -/
def strm (n : Nat) (s : State) : Stream := smGet {} n s.strm.s

/-- Replaces stream `n`. -/
def setStrm (n : Nat) (x : Stream) (s : State) : State := { s with strm.s := smSet {} n x s.strm.s }

/-- Sample `i` of a frame. -/
def samp (i : Nat) (f : SMap Word) : Word := smGet 0 i f

/-- Writes sample `i` of a frame. -/
def setSamp (i : Nat) (w : Word) (f : SMap Word) : SMap Word := smSet 0 i w f

/-- The frame that holds a list of samples from position 0. -/
def frameOf (ws : List Word) : SMap Word := (ws.zipIdx).foldl (fun f p => setSamp p.2 p.1 f) []

/-- Applies `g` to every sample of a frame; `g` keeps 0. -/
def mapFrame (g : Word → Word) (f : SMap Word) : SMap Word :=
  f.foldl (fun r p => setSamp p.1 (g p.2) r) []

/-! ### Endpoints and routes (R246, Table 11.11) -/

/-- Table 11.11: how many endpoints a kind has; 0 for a kind that is not listed. -/
def kindCount (k : Nat) : Nat :=
  match k with | 1 => 1024 | 2 => 128 | 3 => 16 | 4 => 384 | 5 => 20 | 6 => 6 | 7 => 8 | 8 => 1024 | _ => 0

/-- Table 11.11: the kind can be a writer. -/
def kindWrites (k : Nat) : Bool := k == 1 || k == 2 || k == 3 || k == 4 || k == 5 || k == 7 || k == 8

/-- Table 11.11: the kind can be a reader. -/
def kindReads (k : Nat) : Bool := k == 1 || k == 2 || k == 3 || k == 4 || k == 6

/-- R177, R246: the claim unit that an endpoint touches, as block and unit. -/
def endpointOwner (kind idx : Nat) : Nat × Nat :=
  match kind with
  | 1 => (0x08, idx)
  | 2 => (0x10 + idx / 32, 0xFFFF)
  | 3 => (0x14, 0xFFFF)
  | 4 => (0x15, 0xFFFF)
  | 5 => (0x18, 0xFFFF)
  | 6 => (if idx < 2 then 0x2A else if idx < 4 then 0x28 else 0x30, 0xFFFF)
  | 7 => (0x29, 0xFFFF)
  | _ => (0x0A, idx)

/-- R246: a route in force on the table of streams. Taking the writer away also zeroes the buffer it wrote. -/
def applyRoute (role : RouteRole) (kind idx n : Nat) (m : SMap Stream) : SMap Stream :=
  let x := smGet {} n m
  let y : Stream :=
    match role with
    | .writer => { x with writer := some (kind, idx) }
    | .reader => if x.readers.contains (kind, idx) then x else { x with readers := x.readers ++ [(kind, idx)] }
    | .unread => { x with readers := x.readers.filter (· != (kind, idx)) }
    | .free => { x with writer := none, readers := [], wbuf := [] }
  smSet {} n y m

/-- The table of streams once the committed routes are applied. -/
def pendStreams (s : State) : SMap Stream :=
  s.flow.foldl (fun m c => match c with | .route r k i n => applyRoute r k i n m | _ => m) s.strm.s

/-- The stream that endpoint `e` writes. -/
def writesOf (e : Nat × Nat) (m : SMap Stream) : Option Nat := (m.find? fun p => p.2.writer == some e).map (·.1)

/-- The stream that endpoint `e` reads (the first, for a context). -/
def readsOf (e : Nat × Nat) (m : SMap Stream) : Option Nat := (m.find? fun p => p.2.readers.contains e).map (·.1)

/-- The frame that a reading endpoint takes during the present frame (R291). -/
def readerFrame (e : Nat × Nat) (s : State) : SMap Word :=
  match readsOf e s.strm.s with | some n => (strm n s).rbuf | none => []

/-! ### Brine (R292 to R301) -/

/-- The bus of stream `n` plus one, in force. -/
def busOf (n : Nat) (s : State) : Nat := fld 0x0A n s

/-- The members of all buses in force, as stream and bus. -/
def members (s : State) : List (Nat × Nat) :=
  s.cfg.filterMap fun p => if 0xA000 ≤ p.1 && p.1 < 0xA400 then some (p.1 - 0xA000, p.2 - 1) else none

/-- The members of all buses in force or pending. -/
def anyMemberPending (s : State) : Bool :=
  (List.range 1024).any fun n => pend 0x0A n s != 0

/-- Truncation toward zero of `a / b`. -/
def truncDiv (a : Int) (b : Nat) : Int := if 0 ≤ a then a / b else -((-a) / b)

/-- R295: the gain code of member `n` at position `i`; `base` is 0x400 for the send and 0x800 for the return gain. -/
def gainAt (base n i F : Nat) (s : State) : Int :=
  let new := fld 0x0A (base + n) s
  let key := fkey 0x0A (base + n)
  let old := smGet (fieldReset key) key s.strm.prev
  let joined := smGet 0 (fkey 0x0A n) s.strm.prev != busOf n s
  if fld 0x0B 0x001 s == 1 && !joined then (old : Int) + truncDiv (((new : Int) - old) * (i + 1)) F else new

/-- R293, Table 14.1: the samples that member `n` sends for the frame that closes. -/
def sentFrame (n : Nat) (s : State) : SMap Word :=
  let x := strm n s
  match x.writer with
  | none => []
  | some (1, _) => if x.sent then x.wbuf else []
  | some _ => x.rbuf

/-- R296: rnd31 of a sample times a gain code, and the return step before satQ: both drop 14 bits with rounding. -/
def gainMul (x c : Int) : Int := (x * c + 2 ^ 13) / 2 ^ 14

/-- R296: the weighted samples w_k of member `n`, by position. -/
def weighted (n F : Nat) (s : State) : List Int :=
  let f := sentFrame n s
  (List.range F).map fun i => gainMul (samp i f).toInt (gainAt 0x400 n i F s)

/-- The sums of two lists of the same length. -/
def addLists (a b : List Int) : List Int := a.zipWith (· + ·) b

/-- R296: the total of bus `b`, by position. -/
def busTotal (b F : Nat) (s : State) : List Int :=
  ((members s).filter (·.2 == b)).foldl (fun t p => addLists t (weighted p.1 F s)) (List.replicate F 0)

/-- R296: the return of member `n` of bus `b`, by position, each with its clamp. -/
def returnOf (n b F : Nat) (s : State) : List (Word × Bool) :=
  let w := weighted n F s
  ((busTotal b F s).zip w).zipIdx.map fun p =>
    satQ (gainMul (p.1.1 - p.1.2) (gainAt 0x800 n p.2 F s))

/-- R301: every quarter of the Brine store is ON and not changing state. -/
def brineStoreOn (s : State) : Bool := quarterOn 18 0 s

/-- R296, R297: closes one member's return of the frame of `F` samples: into the stream that its return endpoint
writes, with the saturation marks. -/
def closeMember (F : Nat) (s0 : State) (s : State) (p : Nat × Nat) : State :=
  let r := if brineStoreOn s0 then returnOf p.1 p.2 F s0 else []
  let sat := r.any (·.2)
  let s := if sat then
      let x := strm p.1 s
      { setStrm p.1 { x with satCnt := satAdd 0xFF x.satCnt 1 } s with
        strm.busSat := setBit s.strm.busSat p.2 true }
    else s
  match writesOf (8, p.1) s0.strm.s with
  | some n => setStrm n { strm n s with wbuf := frameOf (r.map (·.1)) } s
  | none => s

/-- Every stream that a Brine return endpoint writes starts the closing with zero (R297: no member, no return). -/
def clearReturns (s : State) : State :=
  { s with strm.s := s.strm.s.foldl (fun m p =>
      match p.2.writer with | some (8, _) => smSet {} p.1 { p.2 with wbuf := [] } m | _ => m) s.strm.s }

/-- Brine's closing of the frame of `F` samples (action 3 of Table 01.3); a flushed frame returns zero and counts no
saturation (R89). -/
def brineClose (F : Nat) (flush : Bool) (s : State) : State :=
  let s1 := clearReturns s
  if flush then s1 else
  let s2 := (members s).foldl (closeMember F s) s1
  let sat := (members s).any fun p => brineStoreOn s && (returnOf p.1 p.2 F s).any (·.2)
  raiseIf sat 0x420 s2

/-- R295: the STRM fields in force become those of the previous frame. -/
def keepPrevGains (s : State) : State :=
  { s with strm.prev := s.cfg.filter fun p => 0xA000 ≤ p.1 && p.1 < 0xB000 }

/-- R301: Brine owns its store: some stream is a member in force. -/
def brineOwns (s : State) : Bool := !(members s).isEmpty

/-- R301: a first member joins at this tick: Brine overwrites its store. -/
def brineTakeStore (before : Bool) (s : State) : State :=
  if !before && brineOwns s then
    { zeroRange 0x1000000 0x1100000 s with
        mem.brineOpen := true
        mem.known := smDrop 0x1000000 0x1100000 s.mem.known }
  else s

/-! ### The frame exchange (R17, R232, R290) -/

/-- What readers will see of stream `x` in the frame that opens: what its writer wrote in the frame that closes. A
context that was not RUNNING in it wrote zero. -/
def writtenFrame (ctxRan : Nat → Bool) (x : Stream) : SMap Word :=
  match x.writer with
  | none => []
  | some (1, c) => if ctxRan c then x.wbuf else []
  | some _ => x.wbuf

/-- One stream at the exchange: readers get what was written; a context's buffer keeps its positions while it runs. -/
def exchangeOne (ctxRan : Nat → Bool) (flush : Bool) (x : Stream) : Stream :=
  let f := if flush then [] else writtenFrame ctxRan x
  { x with rbuf := f, wbuf := f, sent := false }

/-- The exchange of all streams; in a flush every buffer is zero (R89). -/
def exchange (ctxRan : Nat → Bool) (flush : Bool) (s : State) : State :=
  { s with strm.s := s.strm.s.foldl (fun m p => smSet {} p.1 (exchangeOne ctxRan flush p.2) m) [] }

/-! ### Status (R303) -/

/-- STRM.INFO_n. -/
def strmInfo (n : Nat) (s : State) : BitVec 16 :=
  let x := strm n s
  let b := busOf n s
  if x.writer.isNone && x.readers.isEmpty && b == 0 then 0 else
  BitVec.ofNat 16 (
    (match x.writer with | some (k, _) => k * 0x1000 | none => 0) + x.readers.length * 0x100
    + (if b = 0 then 0 else 0x80 + (b - 1)) + (if b ≠ 0 && (writesOf (8, n) s.strm.s).isSome then 0x40 else 0))

/-- STRM.USED. -/
def strmUsed (s : State) : Word :=
  let used := (List.range 1024).countP fun n =>
    busOf n s != 0 || (strm n s).writer.isSome || !(strm n s).readers.isEmpty
  BitVec.ofNat 32 ((members s).length * 0x10000 + used)

/-- BRINE.BUS_STATUS. -/
def busStatus (s : State) : Word :=
  (List.range 16).foldl (fun w b => if (members s).any (·.2 == b) then setBit w (16 + b) true else w)
    (s.strm.busSat.setWidth 32)

end Sys2Proof.Machine
end

