-- ==== Sys2Proof/Machine/Lanes.lean ====
section
/-! DEFINITION. 09_slaso_machine and 12_lane_sparing: contexts, their faults and overruns, lane faults, the takeover by
LX, and the start and stop of contexts at a tick. -/

namespace Sys2Proof.Machine

/-- Context `n`. -/
def ctxAt (n : Nat) (s : State) : Ctx := smGet {} n s.lane.ctx

/-- Replaces context `n`. -/
def setCtx (n : Nat) (c : Ctx) (s : State) : State := { s with lane.ctx := smSet {} n c s.lane.ctx }

/-- R24: the logical lane of a context. -/
def laneOf (n : Nat) : Nat := n / 64

/-- The contexts of logical lane `l` that are not wholly in their reset state, in ascending slot order. -/
def laneCtxs (l : Nat) (s : State) : List (Nat × Ctx) := s.lane.ctx.filter fun p => laneOf p.1 == l

/-! ### Event latches and causes (R179, R208) -/

/-- R208: the CAUSE bits of a context clear with its event latch. -/
def clearCauses (g : Nat) (m : Word) (s : State) : State :=
  { s with lane.ctx := s.lane.ctx.foldl (fun r p =>
      smSet {} p.1 (if p.1 / 32 == g && m.getLsbD (p.1 % 32) then
        { p.2 with cold := false, flt := false, ovr := false, evt := false } else p.2) r) [] }

/-- R179: a W1C write to group `g`. An occurrence in the same cycle (`again`) keeps its latch. -/
def clearEvents (g : Nat) (mask again : Word) (s : State) : State :=
  let m := mask &&& ~~~again
  clearCauses g m { s with evt.latch := s.evt.latch &&& ~~~(m.setWidth 2048 <<< (32 * g)) }

/-! ### Context faults and overruns (R199, R200) -/

/-- Takes context `n` from its lane's run list and ends the turn of its head. -/
def leaveList (n : Nat) (s : State) : State :=
  let l := laneOf n
  { s with
    lane.runList := vset s.lane.runList l ((vget s.lane.runList l []).filter (· != n))
    lane.turn := setBit s.lane.turn l false }

/-- R208: LANE.LAST_FAULT names context `n`, `pc` its program counter. -/
def noteFault (n code pc : Nat) (s : State) : State :=
  { s with lane.lastFault := BitVec.ofNat 32 (code * 2 ^ 28 + pc % 2 ^ 14 * 2 ^ 14 + n) }

/-- R200: context `n` faults with a code of Table 09.4 and halts; its registers stay as they stood. -/
def ctxFault (n code : Nat) (s : State) : State :=
  let c := ctxAt n s
  let s := setCtx n { c with st := .halted, faultCode := code, flt := true } s
  raise 0x412 (raise n (leaveList n (noteFault n code c.regs.pc s)))

/-- R199: context `n` overruns: it stays RUNNING and leaves the list. -/
def overrun (n : Nat) (s : State) : State :=
  let c := ctxAt n s
  let s := setCtx n { c with ovr := true, ovrNow := true, ovrCount := satAdd 0xFF c.ovrCount 1 } s
  raise 0x414 (raise n (leaveList n s))

/-- R197: the budget of context `n` in force. -/
def budgetNow (n : Nat) (s : State) : Nat :=
  let b := fld 0x08 (0x400 + n) s
  if fld 0x01 0x011 s == 1 then b / 3 else b

/-- Charges cycles to context `n` and its lane (R197, R208). -/
def charge (n cyc : Nat) (s : State) : State :=
  let c := ctxAt n s
  let l := laneOf n
  { setCtx n { c with used := c.used + cyc } s with
    lane.usedNow := vset s.lane.usedNow l (vget s.lane.usedNow l 0 + cyc) }

/-- The cycles fit in what is left of the context's budget and of the frame (R213). -/
def fits (n cyc : Nat) (s : State) : Bool :=
  (ctxAt n s).used + cyc ≤ budgetNow n s && vget s.lane.usedNow (laneOf n) 0 + cyc ≤ frameCycles s

/-! ### Lane faults (R252 to R263) -/

/-- Logical lane `l` has had a lane fault in the present frame. -/
def laneFailing (l : Nat) (s : State) : Bool := s.lane.fails.any (·.lane == l)

/-- LX serves logical lane `l`. -/
def onLx (l : Nat) (s : State) : Bool := s.lane.lx == .inUse && s.lane.lxLane == l

/-- The logical lane runs: it is served and has not failed. -/
def laneServed (l : Nat) (s : State) : Bool := !s.lane.lost.getLsbD l && !laneFailing l s

/-- The code of Table 12.1. -/
def trigCode : Trigger → Nat
  | .regfileEcc => 1 | .bankEcc => 2 | .selfcheck => 3 | .watchdog => 4 | .snapshotEcc => 5 | .injected => 6

/-- LANE.FAULT_INFO (Table 12.6). -/
def faultInfo (t : Trigger) (lost cold : Bool) (phys : Nat) (spare : Bool) (l : Nat) : Word :=
  BitVec.ofNat 32 (trigCode t * 2 ^ 28 + b2n lost * 2 ^ 27 + b2n cold * 2 ^ 26 + phys * 2 ^ 16 + b2n spare * 2 ^ 4 + l)

/-- The word at `a` lies in the verified code region that context `c` is bound to. -/
def inCode (a : Nat) (c : Ctx) (s : State) : Bool :=
  c.code ≤ a && a < c.code + 4 * c.words && s.lane.regions.any fun r => r.base == c.code

/-- R255: context `n` restarts cold at the takeover of fault `f` (R256 halts it instead where its code is lost). -/
def coldIn (f : LaneFail) (n : Nat) (c : Ctx) (s : State) : Bool :=
  (f.trig == .bankEcc && !inCode f.addr c s) || (f.trig == .snapshotEcc && f.ctx == some n)

/-- R259: lane `l` is lost. -/
def loseLane (l : Nat) (s : State) : State :=
  raise 0x411 { s with lane.lost := setBit s.lane.lost l true }

/-- R262: the cycle number of a fault, `same` when it is detected in the core cycle of the one before. -/
def failCycle (same : Bool) (s : State) : Nat :=
  match s.lane.fails.getLast? with | none => 0 | some f => if same then f.cycle else f.cycle + 1

/-- R259: the lane that LX was to take over finds no reserve any more. -/
def loseReserve (s : State) : State :=
  match s.lane.fails.find? (·.spare) with
  | some f => loseLane f.lane { s with lane.fails := s.lane.fails.map fun g => { g with spare := false } }
  | none => s

/-- R254, R259, R262: a lane fault of logical lane `l` is detected; `same` when in the core cycle of the one before. -/
def laneFault (l : Nat) (t : Trigger) (addr : Nat) (ctx : Option Nat) (same : Bool) (s : State) : State :=
  if !laneServed l s then s else
  let cycle := failCycle same s
  let wins := match s.lane.fails.find? (·.spare) with
    | none => s.lane.lx == .spare && fld 0x08 0x001 s == 1
    | some f => f.cycle == cycle && decide (l < f.lane)
  let s := if wins then loseReserve s else s
  let f : LaneFail := { lane := l, trig := t, addr := addr, ctx := ctx, spare := wins, cycle := cycle }
  let phys := if onLx l s then 16 else l
  let cold := wins && (laneCtxs l s).any fun p => p.2.ran && coldIn f p.1 p.2 s
  let s := { s with
    lane.fails := s.lane.fails ++ [f]
    lane.isolated := if phys < 16 then setBit s.lane.isolated phys true else s.lane.isolated
    lane.lx := if phys = 16 then .failed else s.lane.lx
    lane.info := faultInfo t (!wins) cold phys false l
    lane.faultFrame := s.clk.frameCnt
    lane.faultAddr := if t == .bankEcc then BitVec.ofNat 32 addr else 0 }
  let s := raise 0x410 s
  if wins then s else loseLane l s

/-- R261: LX fails while it is SPARE. DEDUCED: a lane that it was to take over at the tick finds no reserve then (R259;
assumption log 48). -/
def spareFault (t : Trigger) (s : State) : State :=
  let s := loseReserve s
  raise 0x410 { s with
    lane.lx := .failed, lane.info := faultInfo t false false 16 true 0
    lane.faultFrame := s.clk.frameCnt, lane.faultAddr := 0 }

/-- A fault detected on physical lane `phys`, 16 for LX. -/
def physFault (phys : Nat) (t : Trigger) (addr : Nat) (ctx : Option Nat) (same : Bool) (s : State) : State :=
  if phys = 16 then
    match s.lane.lx with
    | .spare => spareFault t s
    | .inUse => laneFault s.lane.lxLane t addr ctx same s
    | .failed => s
  else if s.lane.isolated.getLsbD phys then s
  else laneFault phys t addr ctx same s

/-- R264: a CFG of LANE.FAULT_INJECT commits; those of one block fall in one core cycle (R262). -/
def laneInject (l : Nat) (s : State) : State :=
  { laneFault l .injected 0 none s.lane.injecting s with lane.injecting := true }

/-- The logical lane that physical lane `phys` serves. -/
def servedBy (phys : Nat) (s : State) : Nat := if phys = 16 then s.lane.lxLane else phys

/-- Table 12.1, R528, R276: physical lane `phys` can meet the error: a bank error in the bank of the lane that it serves; a
snapshot error of a context whose snapshot the last tick restored, before its lane has used a cycle. An injected fault has
its own command. -/
def canMeet (phys : Nat) (t : Trigger) (addr ctx : Nat) (s : State) : Bool :=
  let serves : Bool := phys < 16 || s.lane.lx == .inUse
  match t with
  | .injected => false
  | .bankEcc => serves && memUnit addr == some (servedBy phys s) && addrOn addr s
  | .snapshotEcc => serves && (ctxAt ctx s).ran && vget s.lane.usedNow (servedBy phys s) 0 == 0
  | _ => true

/-- R252, R254: a lane fault is detected on a physical lane: a register file, bank or snapshot error. `addr` is the
failing word for BANK_ECC, `slot` the context's slot for SNAPSHOT_ECC. A corrected error is counted, and is no lane
fault (R252, R265). -/
def execLaneFault (phys : Fin 17) (t : Trigger) (addr : Word) (slot : Fin 64) (found : LaneError) (s : State) : Out :=
  let a := addr.toNat / 4 * 4
  let ctx := 64 * servedBy phys s + slot.val
  .next (
    if !live s || !canMeet phys t a ctx s then s
    else match found with
      | .corrected =>
        if t == .regfileEcc || t == .bankEcc || t == .snapshotEcc then
          { s with lane.eccCorr := satAdd 0xFFFF s.lane.eccCorr 1 }
        else s
      | .fault same => physFault phys t a (if t == .snapshotEcc then some ctx else none) same s)

/-- R252: a lane issues no instruction for 4,096 cycles while it has work. -/
def execLaneWatchdog (phys : Fin 17) (same : Bool) (s : State) : Out :=
  .next (if live s then physFault phys .watchdog 0 none same s else s)

/-- R253, R261: a self-check pass ends; `ok` when its signature equals the reference. -/
def execSelfCheckPass (phys : Fin 17) (ok same : Bool) (s : State) : Out :=
  .next (
    if !live s then s else
    let s := { s with lane.scCount := vset s.lane.scCount phys 0, lane.scDone := setBit s.lane.scDone phys true }
    if ok then s else physFault phys .selfcheck 0 none same s)

/-- R253: a lane has completed no pass in 64 consecutive frames. -/
def execScStarved (phys : Fin 17) (s : State) : Out :=
  .next (
    if 64 ≤ vget s.lane.scCount phys 0 then
      raise 0x415 { s with
        lane.starved := setBit s.lane.starved phys true, lane.scCount := vset s.lane.scCount phys 0 }
    else s)

/-- R253: a tick that closes a frame counts it for every physical lane that runs its self-check and has completed no pass in
it. -/
def countStarve (s : State) : State :=
  { s with
    lane.scDone := 0
    lane.inFrame := true
    lane.scCount := Vector.ofFn fun k : Fin 17 =>
      let runs := if k.val = 16 then s.lane.lx != .failed else !s.lane.isolated.getLsbD k
      if runs && s.lane.inFrame && !s.lane.scDone.getLsbD k then min 64 (vget s.lane.scCount k 0 + 1)
      else vget s.lane.scCount k 0 }

/-! ### Contexts at a tick (R188, R195, R206, R255, R256) -/

/-- R188: the registers at a cold start. -/
def initRegs (n : Nat) (c : Ctx) : RegSet :=
  let p : Ptr := { addr := BitVec.ofNat 32 c.dbase, start := BitVec.ofNat 32 c.dbase }
  { v := ((Vector.replicate 32 0).set 0 (BitVec.ofNat 32 n)).set 1 c.arg
    p := Vector.replicate 8 p
    pc := c.entry }

/-- Latches context event `n` with a change of its record. -/
def ctxCause (n : Nat) (c : Ctx) (s : State) : State := raise n (setCtx n c s)

/-- R256, R259: context `n` halts with a code that is no context fault's; it stands in LANE.LAST_FAULT too. DEDUCED: with the
word offset that its program counter holds (assumption log 48). -/
def haltLost (n code : Nat) (c : Ctx) (s : State) : State :=
  noteFault n code c.regs.pc (ctxCause n { c with st := .halted, faultCode := code, flt := true, form := none } s)

/-- R255, R256: one context of the failed lane at the takeover. -/
def takeoverCtx (f : LaneFail) (s : State) (p : Nat × Ctx) : State :=
  let (n, c) := p
  if !c.ran then setCtx n { c with form := none } s
  else if f.trig == .bankEcc && inCode f.addr c s then
    haltLost n 9 c s
  else if coldIn f n c s then
    ctxCause n { c with st := .running, regs := initRegs n c, snap := initRegs n c, form := none, cold := true } s
  else setCtx n { c with st := .running, regs := c.snap, form := none } s

/-- R256: the failing word of a BANK_ECC fault: zeroed outside code, else its region loses its verification. -/
def takeoverWord (f : LaneFail) (s : State) : State :=
  if f.trig != .bankEcc then s
  else if s.lane.regions.any fun r => r.base ≤ f.addr && f.addr < r.base + 4 * r.words then
    unverify f.addr (f.addr + 4) s
  else setWord f.addr 0 s

/-- R258: the streams of the failed lane carry the previous frame at −6 dB and count as sent. -/
def concealLane (l : Nat) (count : Bool) (s : State) : State :=
  { s with strm.s := s.strm.s.foldl (fun m p =>
      let hit : Bool := match p.2.writer with
        | some (1, c) => laneOf c == l && (ctxAt c s).ran
        | _ => false
      smSet {} p.1 (if hit then { p.2 with
          wbuf := mapFrame (fun w => w.sshiftRight 1) p.2.rbuf, sent := true
          conceal := if count then satAdd 0xFF p.2.conceal 1 else p.2.conceal } else p.2) m) [] }

/-- The context of lane `l` that writes a stream. -/
def laneWriter (l : Nat) (x : Stream) : Option Nat :=
  match x.writer with | some (1, c) => if laneOf c == l then some c else none | _ => none

/-- R259: the streams of the lost lane's RUNNING contexts carry zero; Table 14.1: none of its contexts' streams is sent. -/
def silenceLane (l : Nat) (s : State) : State :=
  { s with strm.s := s.strm.s.foldl (fun m p =>
      smSet {} p.1 (match laneWriter l p.2 with
        | some c => { p.2 with wbuf := if (ctxAt c s).st == .running then [] else p.2.wbuf, sent := false }
        | none => p.2) m) [] }

/-- R259: one context of a lost lane at the tick. -/
def loseCtx (s : State) (p : Nat × Ctx) : State :=
  let (n, c) := p
  if c.st == .running then haltLost n 0xA c s else s

/-- The streams' part of the lane faults of the frame that closes (R258, R259), before Brine closes. -/
def failStreams (flush : Bool) (s : State) : State :=
  s.lane.fails.foldl (fun t f => if f.spare then concealLane f.lane (!flush) t else silenceLane f.lane t) s

/-- R255, R256, R259: the contexts' part of one lane fault: the remap. -/
def takeover (s : State) (f : LaneFail) : State :=
  if f.spare && s.lane.lx == .spare then
    let s1 := (laneCtxs f.lane s).foldl (takeoverCtx f) { s with lane.lx := .inUse, lane.lxLane := f.lane }
    takeoverWord f s1
  else (laneCtxs f.lane s).foldl loseCtx s

/-- R16, R255, R259: all lane faults of the frame that closes. -/
def takeovers (s : State) : State := { s.lane.fails.foldl takeover s with lane.fails := [] }

/-- R199: at the tick every context still in a run list of a lane that has not failed overruns. -/
def tickOverruns (s : State) : State :=
  (List.range 16).foldl (fun t l =>
    if laneFailing l t then t else (vget t.lane.runList l []).foldl (fun u n => overrun n u) t) s

/-- R195, R197, R208: every context at the opening of a frame: the formed snapshot is in force, RUNNING contexts
restart from theirs, the frame's counts start again. -/
def openCtx (c : Ctx) : Ctx :=
  let snap := c.form.getD c.snap
  let run := c.st == .running
  { c with
    snap := snap, form := none, regs := if run then snap else c.regs, ran := run, used := 0
    ovrLast := c.ovrNow, ovrNow := false }

/-- R196: the run lists of the frame that opens. -/
def buildLists (s : State) : State :=
  { s with
    lane.runList := Vector.ofFn fun l : Fin 16 =>
      if s.lane.lost.getLsbD l then [] else ((laneCtxs l s).filter fun p => p.2.st == .running).map (·.1)
    lane.turn := 0 }

/-- The lanes' frame counts become those of the last completed frame (R208). -/
def keepCounts (s : State) : State :=
  { s with
    lane.cycUsed := s.lane.usedNow
    lane.ovrAny := (List.range 16).foldl (fun b l => setBit b l ((laneCtxs l s).any fun p => p.2.ovrNow)) 0
    lane.usedNow := Vector.replicate 16 0 }

/-- Every context opens its frame. -/
def openCtxs (s : State) : State :=
  { s with lane.ctx := s.lane.ctx.foldl (fun m p => smSet {} p.1 (openCtx p.2) m) [] }

/-- R188, R206, R244: CSTART takes effect at the tick. -/
def startCtx (n entry code words dbase dlen : Nat) (arg : Word) (s : State) : State :=
  let c := ctxAt n s
  let c := { c with
    st := .running, code := code, words := words, entry := entry, dbase := dbase, dlen := dlen, arg := arg
    faultCode := 0, form := none }
  let s := setCtx n { c with regs := initRegs n c, snap := initRegs n c } s
  { s with strm.s := s.strm.s.foldl (fun m p =>
      smSet {} p.1 (if p.2.writer == some (1, n) then { p.2 with wbuf := [] } else p.2) m) [] }

/-- R245: CSTOP takes effect at the tick. -/
def stopCtx (n : Nat) (release : Bool) (s : State) : State :=
  let c := ctxAt n s
  if release then
    setCtx n { st := .free, cold := c.cold, flt := c.flt, ovr := c.ovr, evt := c.evt, ovrLast := c.ovrLast
               ovrNow := c.ovrNow, ovrCount := c.ovrCount, faultCode := c.faultCode } s
  else if c.st == .free then s
  else setCtx n { c with st := .stopped, form := none } s

/-- Table 14.1: contexts of lane `l` that are stopped before the tick send nothing. -/
def unsendLane (l : Nat) (s : State) : State :=
  { s with strm.s := s.strm.s.foldl (fun m p =>
      smSet {} p.1 (if (laneWriter l p.2).isSome then { p.2 with sent := false } else p.2) m) [] }

/-- R113: BRESET of logical lane `l` stops its contexts and cancels their pending CSTARTs. -/
def laneBreset (l : Nat) (s : State) : State :=
  let s := unsendLane l s
  let s := { s with flow := s.flow.filter fun c => match c with | .cstart n .. => laneOf n != l | _ => true }
  let s := (laneCtxs l s).foldl (fun t p =>
    if p.2.st == .running then setCtx p.1 { p.2 with st := .stopped, ran := false, form := none } t
    else setCtx p.1 { p.2 with ran := false } t) s
  { s with lane.runList := vset s.lane.runList l [], lane.turn := setBit s.lane.turn l false }

/-! ### Status (R208, R265) -/

/-- The byte LANE.CTX_STATE_n. -/
def ctxState (n : Nat) (s : State) : Byte :=
  let c := ctxAt n s
  BitVec.ofNat 8 (b2n c.cold * 128 + b2n c.flt * 64 + b2n c.ovr * 32 + b2n c.evt * 16 + b2n c.ovrLast * 4
    + (match c.st with | .free => 0 | .stopped => 1 | .running => 2 | .halted => 3))

/-- LANE.MAP (Table 12.4). -/
def laneMap (s : State) : Word :=
  BitVec.ofNat 32 ((match s.lane.lx with | .spare => 0 | .inUse => 1 | .failed => 2) * 2 ^ 30
    + s.lane.lxLane * 2 ^ 20 + s.lane.isolated.toNat)

end Sys2Proof.Machine
end

