-- ==== Sys2Proof/Machine/Elem.lean ====
section
/-! DEFINITION. Elementary functions in fixed point at scale 2^96, for the tone generators' table, level and sweep
(R431, R432): the spec gives them as real functions; they are computed here to some 90 bits (assumption log 36). -/

namespace Sys2Proof.Machine

/-- 1 at scale 2^96. -/
def fxOne : Int := 2 ^ 96

/-- π. -/
def fxPi : Int := 248902613312231085230521944622

/-- ln 2. -/
def fxLn2 : Int := 54916777467707473351141471128

/-- ln 10. -/
def fxLn10 : Int := 182429585950654714090129938606

/-- The product of two fixed-point numbers. -/
def fxMul (a b : Int) : Int := a * b / fxOne

/-- sin x for 0 ≤ x ≤ π/2, by its series. -/
def fxSin (x : Int) : Int :=
  let x2 := fxMul x x
  ((List.range 17).foldl (fun (p : Int × Int) k =>
    let t := -(fxMul p.2 x2) / (((2 * k + 2) * (2 * k + 3) : Nat) : Int)
    (p.1 + t, t)) (x, x)).1

/-- e^x, by reduction modulo ln 2 and the series. -/
def fxExp (x : Int) : Int :=
  let n := x / fxLn2
  let r := x - n * fxLn2
  let e := ((List.range 30).foldl (fun (p : Int × Int) k =>
    let t := fxMul p.2 r / (k + 1 : Nat)
    (p.1 + t, t)) (fxOne, fxOne)).1
  if 0 ≤ n then e * 2 ^ n.toNat else e / 2 ^ (-n).toNat

/-- ln (a / b) for positive a and b, by reduction to [1, 2) and the series of the inverse hyperbolic tangent. -/
def fxLn (a b : Nat) : Int :=
  let la : Int := Nat.log2 a
  let lb : Int := Nat.log2 b
  let k := la - lb
  let (a, b) := if 0 ≤ k then (a, b * 2 ^ k.toNat) else (a * 2 ^ (-k).toNat, b)
  let z : Int := ((a : Int) - b) * fxOne / ((a : Int) + b)
  let z2 := fxMul z z
  let s := ((List.range 40).foldl (fun (p : Int × Int) i =>
    (p.1 + p.2 / ((2 * i + 1 : Nat) : Int), fxMul p.2 z2)) (0, z)).1
  2 * s + k * fxLn2

/-- R431: T[j] as a whole number at scale 2^31; T[2,048] is 1.0. -/
def sineTable (j : Nat) : Int :=
  if j = 2048 then 2 ^ 31 else (fxSin (fxPi * j / 4096) + 2 ^ 64) / 2 ^ 65

/-- R431: the level 10^(−l / 40). -/
def fxLevel (l : Nat) : Int := if l = 0 then fxOne else if 200 < l then 0 else fxExp (-(fxLn10 * l) / 40)

end Sys2Proof.Machine
end

