-- ==== Sys2Proof/Machine/Speaker.lean ====
section
/-! DEFINITION. 21_speaker_power_stage: the class-D channels, their start, current limit, shutdown and retries, DC and
thermal protection, the impedance reading, the limiter. -/

namespace Sys2Proof.Machine

/-- Channel `x`. -/
def spkAt (x : Nat) (s : State) : SpkCh := vget s.spk.ch x {}

/-- Replaces channel `x`. -/
def setSpk (x : Nat) (c : SpkCh) (s : State) : State := { s with spk.ch := vset s.spk.ch x c }

/-- R450: SPK.MODE is parallel. -/
def spkParallel (s : State) : Bool := fld 0x30 0x001 s == 1

/-- The channel exists for the stage: channel 1 does not in parallel mode (R450). -/
def spkUsed (x : Nat) (s : State) : Bool := x == 0 || !spkParallel s

/-- SPK.EN_x in force. -/
def spkEn (x : Nat) (s : State) : Bool := fld 0x30 (0x010 + x) s == 1

/-- R451: the channel counts as off. -/
def spkOff (x : Nat) (s : State) : Bool := (spkAt x s).state == .off || (spkAt x s).state == .latched

/-- R463: a channel is off with EN_x = 1 pending. -/
def spkStartPends (s : State) : Bool :=
  (List.range 2).any fun x => (spkAt x s).state == .off && pend 0x30 (0x010 + x) s == 1

/-- R453: the current limit of the channel's comparators, in mA. -/
def spkLimit (x : Nat) (s : State) : Nat := if (spkAt x s).state == .starting && (spkAt x s).window then 2000 else 4000

/-- R451: SPK.STAGE.IDLE. -/
def spkIdle (s : State) : Bool := spkOff 0 s && spkOff 1 s

/-- R450, R451: the half-bridges of the channel switch. -/
def spkSwitching (x : Nat) (s : State) : Bool :=
  match (spkAt x s).state with
  | .running => true | .stopping => true | .muted => true | .starting => (spkAt x s).window | _ => false

/-! ### Limiter (R460) -/

/-- R460: the attenuation of channel `x` in half decibels. -/
def spkAtten (x : Nat) (s : State) : Nat :=
  let knee := if fld 0x02 0x015 s == 1 && 0 < s.sup.sagStep then fld 0x30 (0x020 + s.sup.sagStep) s else 0
  max (fld 0x30 (0x014 + x) s) (max knee (if s.spk.thermWarn then 12 else 0))

/-- R460: the attenuation of channel `x` is brought to its present value: at once where it rises, over 1 ms where it falls
while the channel switches. -/
def spkAttenTo (x : Nat) (s : State) : State :=
  let c := spkAt x s
  let a := spkAtten x s
  let top := if c.attenLeft = 0 then c.atten else c.attenFrom
  if top ≤ a || !spkSwitching x s then setSpk x { c with atten := a, attenLeft := 0 } s
  else if a < c.atten then setSpk x { c with atten := a, attenFrom := top, attenLeft := 4 } s
  else setSpk x { c with atten := a } s

/-- R460: both channels' attenuation is brought to its present value. -/
def spkLimiter (s : State) : State := spkAttenTo 1 (spkAttenTo 0 s)

/-- R460: the attenuation in force, in half decibels. During a fall, which is linear over 1 ms, it is open between its
ends (assumption log 50). -/
def spkAttenNow (x : Nat) (s : State) : Nat × State :=
  let c := spkAt x s
  if c.attenLeft = 0 then (c.atten, s)
  else
    let (w, s) := takeFree s
    (c.atten + w.toNat % (c.attenFrom - c.atten + 1), s)

/-! ### Start and stop (R452, R455) -/

/-- R406: a converter that is powered anew has not converged. -/
def pipePowerUp (k : Nat) (s : State) : State := { s with pipe.converged := setBit s.pipe.converged k false }

/-- R452: a start: at once while PGOOD reads 1, else from WAIT_BOOST. -/
def spkBegin (x : Nat) (s : State) : State :=
  let s := if !spkOff x s then s
    else if spkParallel s then (List.range 4).foldl (fun t k => pipePowerUp k t) s
    else pipePowerUp (2 * x) (pipePowerUp (2 * x + 1) s)
  setSpk x { spkAt x s with
    state := if s.boost.pgood then .starting else .waitBoost, window := false, consec := 0, recent := [] } s

/-- R455: SPK.EN_x = 0 commits. -/
def spkStop (x : Nat) (s : State) : State :=
  let c := spkAt x s
  match c.state with
  | .starting => setSpk x { c with state := .stopping } s
  | .running => setSpk x { c with state := .stopping } s
  | .stopping => s
  | _ => setSpk x { c with state := .off, retries := if c.state == .latched then 0 else c.retries } s

/-- The effect of SPK.EN_x on commit; `was` is the value before. In parallel mode EN_1 has none (R450). -/
def spkEnable (x was v : Nat) (s : State) : State :=
  if !spkUsed x s || was == v then s else if v = 1 then spkBegin x s else spkStop x s

/-- R454: SPK.RESTART_x on commit. -/
def spkRestart (x : Nat) (s : State) : State := spkBegin x (setSpk x { spkAt x s with retries := 0 } s)

/-- R452: the start sequence begins once PGOOD reads 1. -/
def execSpkStart (x : Fin 2) (s : State) : Out :=
  .next (
    if (spkAt x s).state == .waitBoost && s.boost.pgood then
      setSpk x { spkAt x s with state := .starting, window := false, consec := 0, recent := [] } s
    else s)

/-- R452: PWM edge 154 releases both half-bridges and the start window begins. -/
def execSpkReleaseEdge (x : Fin 2) (s : State) : Out :=
  .next (if (spkAt x s).state == .starting then setSpk x { spkAt x s with window := true } s else s)

/-- R452, R462: the start window ends with no limit hit. -/
def execSpkWindowEnd (x : Fin 2) (s : State) : Out :=
  .next (
    let c := spkAt x s
    if !(c.state == .starting && c.window) then s
    else if s.boost.ovp then raise 0x4C7 (setSpk x { c with state := .muted, window := false } s)
    else raise (0x4C8 + x.val) (setSpk x { c with state := .running, window := false } s))

/-- R455: the stop ramp ends and the half-bridges turn off on one edge. -/
def execSpkStopComplete (x : Fin 2) (s : State) : Out :=
  .next (
    if (spkAt x s).state == .stopping then setSpk x { spkAt x s with state := .off, window := false } s else s)

/-! ### Shutdown and retries (R453, R454, R457) -/

/-- R383: a MIC_ARRAY perform phase whose chirp plays on channel `x` loses it. -/
def arrayLose (x : Nat) (s : State) : State :=
  { s with mic.arrayLost := s.mic.arrayLost || calRunning 5 (some x) s }

/-- R454: channel `x` shuts down; in a quiet stop its EN counts as 0 (R505). -/
def spkShutdown (x : Nat) (cause : SpkCause) (s : State) : State :=
  let s := arrayLose x s
  let c : SpkCh := { spkAt x s with
    cause := cause, shutdowns := satAdd 0xFFFF (spkAt x s).shutdowns 1, window := false, consec := 0, recent := [] }
  let s := raise (0x4C0 + x) s
  if !spkEn x s || s.lcy.quiet.isSome then setSpk x { c with state := .off } s
  else if cause == .dc then raise (0x4C2 + x) (setSpk x { c with state := .latched } s)
  else if cause == .otp then setSpk x { c with state := .retryWait } s
  else if c.retries < 8 then setSpk x { c with state := .retryWait, retries := c.retries + 1 } s
  else raise (0x4C2 + x) (setSpk x { c with state := .latched } s)

/-- R453: a limited cycle of channel `x`, `gap` PWM cycles after the one before. -/
def execSpkLimitHit (x : Fin 2) (gap : Nat) (s : State) : Out :=
  .next (
    if !spkSwitching x s || !spkUsed x s then s else
    let c := spkAt x s
    let consec := if gap == 1 then c.consec + 1 else 1
    let recent := 0 :: (c.recent.map (· + gap)).filter (· < 768)
    let inWindow := c.state == .starting
    let s := setSpk x { c with
      limited := satAdd 0xFFFF c.limited 1, ilim := 4, consec := consec, recent := recent } s
    if inWindow then spkShutdown x .startLimit s
    else if 16 ≤ consec then spkShutdown x .consec s
    else if 64 ≤ recent.length then spkShutdown x .rate s
    else s)

/-- R454: 100 ms after a shutdown the start sequence begins again. -/
def execSpkRetry (x : Fin 2) (s : State) : Out :=
  .next (
    if (spkAt x s).state == .retryWait && (spkAt x s).cause != .otp then
      setSpk x { spkAt x s with state := .starting, window := false } s
    else s)

/-- R454: 1 s of RUNNING without a shutdown. -/
def execSpkRetriesClear (x : Fin 2) (s : State) : Out :=
  .next (if (spkAt x s).state == .running then setSpk x { spkAt x s with retries := 0 } s else s)

/-- R457: the mean output has stayed above 0.40 V for 300 ms. -/
def execSpkDcFault (x : Fin 2) (s : State) : Out :=
  .next (
    if (spkAt x s).state == .running || (spkAt x s).state == .muted then spkShutdown x .dc s else s)

/-! ### Boost over-voltage (R456) -/

/-- R456: the boost's over-voltage stop mutes one running channel. -/
def spkMute (x : Nat) (s : State) : State :=
  if (spkAt x s).state == .running then raise 0x4C7 (setSpk x { spkAt x s with state := .muted } s) else s

/-- R456: the boost's over-voltage stop mutes every running channel. -/
def spkMuteAll (s : State) : State := spkMute 1 (spkMute 0 s)

/-- R456: one muted channel goes on. -/
def spkUnmute (x : Nat) (s : State) : State :=
  if (spkAt x s).state == .muted then setSpk x { spkAt x s with state := .running } s else s

/-- R456: PGOOD reads 1 with OVP clear: muted channels return to RUNNING. -/
def spkPgood (s : State) : State := if s.boost.ovp then s else spkUnmute 1 (spkUnmute 0 s)

/-! ### Impedance and temperature (R458, R459, R461) -/

/-- R458, R459: the reading of one 250 ms interval: magnitude in 1/256 Ω and the pilot's SNR in dB. -/
def execSpkImpedanceReading (x : Fin 2) (mag : BitVec 16) (snr : Byte) (s : State) : Out :=
  .next (
    let c := spkAt x s
    if !(c.state == .running && fld 0x30 (0x016 + x.val) s == 1 && spkUsed x s) then s
    else if snr.toNat < 20 then setSpk x { c with impValid := false, snr := snr.toNat } s
    else
      let s := setSpk x { c with impValid := true, snr := snr.toNat, mag := mag.toNat } s
      raiseIf (mag.toNat < 16 * fld 0x30 (0x01A + x.val) s || 16 * fld 0x30 (0x01C + x.val) s < mag.toNat)
        (0x4C4 + x.val) s)

/-- R461: an over-temperature shutdown of a channel that was switching. -/
def spkOtp (x : Nat) (s : State) : State :=
  match (spkAt x s).state with
  | .starting => spkShutdown x .otp s
  | .running => spkShutdown x .otp s
  | .muted => spkShutdown x .otp s
  | .stopping => spkShutdown x .otp s
  | _ => s

/-- R461: the stage sensor reads `t` quarters of a degree. -/
def execSpkThermal (t : Int) (s : State) : Out :=
  .next (
    let s := { s with spk.temp := t }
    let s := if 500 ≤ t && !s.spk.thermWarn then raise 0x4C6 { s with spk.thermWarn := true }
      else if t < 460 then { s with spk.thermWarn := false } else s
    let s := spkLimiter s
    if 540 ≤ t then spkOtp 1 (spkOtp 0 { s with spk.otp := true }) else s)

/-- R461: one channel restarts after an over-temperature shutdown. -/
def spkCool (x : Nat) (s : State) : State :=
  let c := spkAt x s
  if c.state == .retryWait && c.cause == .otp then setSpk x { c with state := .starting, window := false } s else s

/-- R461: the stage has cooled below 115 °C, no sooner than 100 ms after the shutdown. -/
def execSpkOtpRestart (s : State) : Out :=
  .next (if s.spk.otp && s.spk.temp < 460 then spkCool 1 (spkCool 0 { s with spk.otp := false }) else s)

/-- Table 05.9: BRESET of SPK, which is idle. -/
def spkBreset (s : State) : State := { resetFields 0x30 s with spk := {}, out.vol := vset (vset s.out.vol 4 0) 5 0 }

/-- R453: the frame's part of ILIM_ACT, and CLIP. -/
def spkTick (thirds : Nat) (clip : BitVec 2) (s : State) : State :=
  let one (x : Nat) (s : State) : State :=
    let c := spkAt x s
    setSpk x { c with ilim := c.ilim - thirds, attenLeft := c.attenLeft - thirds, clip := c.clip || (clip.getLsbD x && spkSwitching x s) } s
  one 1 (one 0 s)

/-! ### Registers (R464) -/

/-- The code of SPK.STATUS_x.STATE. -/
def spkStateCode : SpkState → Nat
  | .off => 0 | .waitBoost => 1 | .starting => 2 | .running => 3 | .stopping => 4 | .retryWait => 5 | .latched => 6
  | .muted => 7

/-- The code of SPK.STATUS_x.CAUSE. -/
def spkCauseCode : SpkCause → Nat
  | .none => 0 | .startLimit => 1 | .consec => 2 | .rate => 3 | .dc => 4 | .otp => 5

/-- SPK.STATUS_x; channel 1 reads 0 in parallel mode. -/
def spkStatus (x : Nat) (s : State) : Word × State :=
  if !spkUsed x s then (0, s) else
  let c := spkAt x s
  let (a, s) := spkAttenNow x s
  (BitVec.ofNat 32 (spkCauseCode c.cause * 2 ^ 28 + c.retries % 16 * 2 ^ 24 + a % 256 * 2 ^ 16 + b2n c.clip * 2 ^ 12
    + b2n (0 < c.ilim) * 2 ^ 11 + spkStateCode c.state), s)

/-- SPK.STAGE. -/
def spkStage (s : State) : Word :=
  BitVec.ofInt 16 s.spk.temp ++ BitVec.ofNat 16 (b2n s.spk.otp * 4 + b2n s.spk.thermWarn * 2 + b2n (spkIdle s))

/-- SPK.IMP_x. -/
def spkImp (x : Nat) (s : State) : Word :=
  if !spkUsed x s then 0 else
  let c := spkAt x s
  BitVec.ofNat 32 (b2n c.impValid * 2 ^ 31 + c.snr % 256 * 2 ^ 16 + c.mag % 2 ^ 16)

/-- SPK.LIMCNT_x. -/
def spkLimcnt (x : Nat) (s : State) : Word :=
  if !spkUsed x s then 0 else BitVec.ofNat 32 ((spkAt x s).limited * 2 ^ 16 + (spkAt x s).shutdowns)

/-! ### Checks (R463) -/

/-- R463: SPK.EN_x = 1 against pending values: the sub-reason of STATE. -/
def spkEnCheck (x : Nat) (s : State) : Option Nat :=
  if pend 0x31 0x001 s == 0 then some 1 else if x == 1 && pend 0x30 0x001 s == 1 then some 3 else none

end Sys2Proof.Machine
end

