-- ==== Sys2Proof/Machine/Glint.lean ====
section
/-! DEFINITION. 22_glint_path: the sample arithmetic, the gates, the envelope and the duck, start and stop. -/

namespace Sys2Proof.Machine

/-- Glint channel `c`. -/
def glAt (c : Nat) (s : State) : GlintCh := vget s.glint c {}

/-- Replaces Glint channel `c`. -/
def setGl (c : Nat) (x : GlintCh) (s : State) : State := { s with glint := vset s.glint c x }

/-! ### The sample arithmetic (R466) -/

/-- `a / 2^14` to the nearest integer, ties away from zero. -/
def roundAway14 (a : Int) : Int := if 0 ≤ a then (a + 2 ^ 13) / 2 ^ 14 else -((-a + 2 ^ 13) / 2 ^ 14)

/-- R466: the exact filter sum over PIPE codes, newest first. -/
def glintAcc (h : Vector (BitVec 16) 64) (xs : List (BitVec 14)) : Int :=
  (List.range 64).foldl (fun a t => a + (vget h t 0).toInt * (xs.getD t 0).toInt) 0

/-- R466: the filter output before the gain stage. -/
def glintY (h : Vector (BitVec 16) 64) (xs : List (BitVec 14)) : Int := roundAway14 (glintAcc h xs)

/-- R466: the clamp, and whether it acts. -/
def glintClamp (y : Int) : Int × Bool :=
  if y < -8192 then (-8192, true) else if 8191 < y then (8191, true) else (y, false)

/-- R466: the RDAC code of a clamped value. -/
def glintCode (y : Int) : Int := 2048 + y / 4

/-- R466, R471: the gain of the stage as a fixed-point number: GAIN_c and `duck` dB on the channel's own mix. -/
def glintGain (c duck : Nat) (s : State) : Int :=
  let g := fld 0x32 (0x012 + c) s
  if g = 255 then 0 else fxExp (-(fxLn10 * (g + 2 * duck : Nat)) / 40)

/-- R466: what channel `c` makes of the PIPE codes `xs`, newest first, between ramps (R477): the RDAC code, and whether the
clamp acts. DEDUCED: the product with the gain is rounded to the nearest integer, as in the worked example of the chapter
(assumption log 50). -/
def glintSample (c duck : Nat) (xs : List (BitVec 14)) (s : State) : Int × Bool :=
  let p := 2 * (glintY (glAt c s).h xs * glintGain c duck s)
  let y := glintClamp ((if 0 ≤ p then p + fxOne else p + fxOne - 1) / (2 * fxOne))
  (glintCode y.1, y.2)

/-! ### Gates (R468, R469) -/

/-- R468: output `o` is driving: HP_L, HP_R, LOUTL, LOUTR. -/
def outDrives (o : Nat) (s : State) : Bool :=
  if o < 2 then s.hp.state == .on
  else (fld 0x28 0x001 s).testBit (o - 2) && !s.dac.loutOff.getLsbD (o - 2)

/-- R468: the conditions under which the gate of output `o` for channel `c` is open. -/
def gateWant (c o : Nat) (s : State) : Bool :=
  (fld 0x32 (0x016 + c) s).testBit o && (glAt c s).state == .running && outDrives o s
    && (fld 0x32 (0x01A + c) s == 0 || 0 < (glAt c s).gateHold)

/-- Table 22.4: the gate is open or ramping. -/
def gateOpen (c o : Nat) (s : State) : Bool := gateWant c o s || 0 < vget (glAt c s).tail o 0

/-- R469: some gate into HP_L or HP_R is open or ramping. -/
def glintHpHeld (s : State) : Bool := gateOpen 0 0 s || gateOpen 0 1 s || gateOpen 1 0 s || gateOpen 1 1 s

/-- R469: in automatic mode the class-H pump goes to ±1.8 V while Glint mixes into the headphones. -/
def glintPump (s : State) : State :=
  if s.hp.state == .on && fld 0x2A 0x004 s == 0 && !s.hp.removal && glintHpHeld s
      && ((!s.hp.railHigh && s.hp.step == .none) || s.hp.step == .down) then
    { s with hp.step := .up }
  else s

/-- R476: the HP gates close at once. -/
def glintHpClose (s : State) : State :=
  { s with glint := s.glint.map fun g => { g with tail := vset (vset g.tail 0 0) 1 0 } }

/-! ### The duck (R470, R471) -/

/-- R471: the attenuation the duck of channel `c` holds, in dB; it releases over 400 evaluations. -/
def duckDb (c : Nat) (s : State) : Nat :=
  let g := glAt c s
  if !g.ducking then 0 else if g.held then fld 0x32 (0x020 + c) s else fld 0x32 (0x020 + c) s * g.release / 400

/-- R471: the duck on the own mix of channel `c`. -/
def duckOwn (c : Nat) (s : State) : Nat := if (fld 0x32 (0x022 + c) s).testBit 0 then duckDb c s else 0

/-- R471, R450: the duck on speaker `x`: the larger of the two channels'; none on SPK1 in parallel mode. -/
def duckSpk (x : Nat) (s : State) : Nat :=
  if x = 1 && fld 0x30 0x001 s == 1 then 0 else
  let one (c : Nat) : Nat := if (fld 0x32 (0x022 + c) s).testBit (x + 1) then duckDb c s else 0
  max (one 0) (one 1)

/-- R471: the condition of the duck detector on the envelope `e`, given those of the evaluations before. -/
def duckFires (c : Nat) (e : Int) (hist : List Byte) (s : State) : Bool :=
  let rise := fld 0x32 (0x01E + c) s
  decide ((-60 : Int) + fld 0x32 (0x01C + c) s ≤ e)
    && (rise == 0 || (match hist[63]? with | some p => decide (p.toInt + rise ≤ e) | none => false))

/-- R468: the gates' part of an evaluation: an output whose gate is open ramps for 0.5 ms once it closes. -/
def gateTails (c : Nat) (s : State) : State :=
  let g := glAt c s
  setGl c { g with tail := Vector.ofFn fun o : Fin 4 => if gateWant c o s then 4 else vget g.tail o 0 - 1 } s

/-- R470, R471: one evaluation of channel `c` with envelope `e`. -/
def duckEval (c : Nat) (e : Byte) (s : State) : State :=
  let g := glAt c s
  let fires := duckFires c e.toInt g.hist s
  let low := decide (e.toInt < (-60 : Int) + fld 0x32 (0x01C + c) s)
  let above := decide ((-60 : Int) + fld 0x32 (0x01A + c) s ≤ e.toInt)
  let left := if g.ducking && !g.held then g.release - 1 else g.release
  let spent := g.ducking && !g.held && left == 0
  let g' : GlintCh := { g with
    env := e, hist := (e :: g.hist).take 64
    below := if low then min 8000 (g.below + 1) else 0
    gateHold := if above then 400 else g.gateHold - 1
    ducking := fires || (g.ducking && !spent), held := fires || g.held
    release := if fires then 0 else left }
  raiseIf (fires && !g.ducking) (0x4A8 + c) (setGl c g' s)

/-- R471: the detector is evaluated every 125 µs; gate ramps, the 1 ms between GLINT_CLIP events and the release of the
duck are counted in these evaluations. -/
def execGlintDuckEval (c : Fin 2) (env : Byte) (s : State) : Out :=
  let g := glAt c s
  .next (
    if g.state == .running then
      glintPump (gateTails c (duckEval c env (setGl c { g with clipWait := g.clipWait - 1 } s)))
    else if g.state == .stopping then gateTails c s
    else s)

/-- R471: the envelope has stayed below DUCK_TH for DUCK_HOLD, and the duck releases over 50 ms. -/
def execGlintDuckHoldEnd (c : Fin 2) (s : State) : Out :=
  let g := glAt c s
  .next (
    if g.state == .running && g.ducking && g.held && decide (8 * fld 0x32 (0x024 + c) s ≤ g.below) then
      setGl c { g with held := false, release := 400 } s
    else s)

/-- R466, R480: the clamp acts on a sample. -/
def execGlintClip (c : Fin 2) (s : State) : Out :=
  let g := glAt c s
  .next (
    if g.state != .running then s else
    raiseIf (g.clipWait == 0) (0x4AA + c)
      (setGl c { g with clip := true, clipWait := if g.clipWait == 0 then 8 else g.clipWait } s))

/-! ### Start and stop (R472 to R476) -/

/-- The channel at rest, with its coefficients. -/
def glintRest (g : GlintCh) : GlintCh := { h := g.h, clip := g.clip }

/-- R472: GLINT.EN_c = 1: the converter is powered, RDACc_OUT is driven at code 2,048. -/
def glintStart (c : Nat) (s : State) : State :=
  match (glAt c s).state with
  | .off | .stopping => pipePowerUp (4 + c) (setGl c { glintRest (glAt c s) with state := .starting } s)
  | _ => s

/-- R472: GLINT.EN_c = 0: the gates close and any duck releases at once. -/
def glintStop (c : Nat) (s : State) : State :=
  let g := glAt c s
  match g.state with
  | .starting | .running => setGl c { glintRest g with state := .stopping, tail := g.tail } s
  | _ => s

/-- R472: GLINT.EN_c commits with value `v`. -/
def glintEnable (c v : Nat) (s : State) : State := if v = 1 then glintStart c s else glintStop c s

/-- R472: 20 µs have passed since the start. -/
def execGlintStartDone (c : Fin 2) (s : State) : Out :=
  let g := glAt c s
  .next (if g.state == .starting then glintPump (setGl c { g with state := .running } s) else s)

/-- R472: the gates have closed, RDACc_OUT is Hi-Z and the converter is powered down. -/
def execGlintStopDone (c : Fin 2) (s : State) : Out :=
  let g := glAt c s
  .next (if g.state == .stopping then setGl c (glintRest g) s else s)

/-- R474: a mode entry stops every channel; EN keeps its value. -/
def glintModeEntry (s : State) : State := glintStop 1 (glintStop 0 s)

/-- R474: on the return to RUN each enabled channel starts again. -/
def glintRestart (s : State) : State :=
  let one (c : Nat) (s : State) : State := if fld 0x32 (0x010 + c) s == 1 then glintStart c s else s
  one 1 (one 0 s)

/-- R473: BRESET of GLINT. -/
def glintBreset (s : State) : State := { resetFields 0x32 s with glint := Vector.replicate 2 {} }

/-- R477: new coefficients, from the 128 bytes of halfwords at `a`. -/
def glintCoefs (a : Nat) (s : State) : Vector (BitVec 16) 64 := Vector.ofFn fun t : Fin 64 => halfAt (a + 2 * t) s

/-! ### Status (R479) -/

/-- The code of Table 22.4. -/
def glintStateCode : GlintState → Nat
  | .off => 0 | .starting => 1 | .running => 2 | .stopping => 3

/-- GATE_OPEN_c. -/
def gateBits (c : Nat) (s : State) : Nat := (List.range 4).foldl (fun b o => b + b2n (gateOpen c o s) * 2 ^ o) 0

/-- GLINT.STATUS. -/
def glintStatus (s : State) : Word :=
  let a := glAt 0 s
  let b := glAt 1 s
  BitVec.ofNat 32 (gateBits 1 s * 2 ^ 12 + gateBits 0 s * 2 ^ 8 + b2n b.clip * 2 ^ 7 + b2n a.clip * 2 ^ 6
    + b2n b.ducking * 2 ^ 5 + b2n a.ducking * 2 ^ 4 + glintStateCode b.state * 4 + glintStateCode a.state)

/-- GLINT.STATUS takes a W1C write. -/
def glintW1c (w : Word) (s : State) : State :=
  let one (c : Nat) (s : State) : State :=
    if w.getLsbD (6 + c) then setGl c { glAt c s with clip := false } s else s
  one 1 (one 0 s)

/-- GLINT.ENV_c. -/
def glintEnv (c : Nat) (s : State) : Word :=
  ((if (glAt c s).state == .running then (glAt c s).env else 0x80 : Byte)).setWidth 32

end Sys2Proof.Machine
end

