-- ==== Sys2Proof/Machine/Outputs.lean ====
section
/-! DEFINITION. 20_outputs_and_jack: line outputs, resistor-string DACs, tone generators, headphone outputs, the jack. -/

namespace Sys2Proof.Machine

/-! ### Volume stages (R422, R423) -/

/-- R423: the volume code in force of output endpoint `k`: HP_L, HP_R, LOUTL, LOUTR, SPK0, SPK1. -/
def outVol (k : Nat) (s : State) : Nat :=
  if k < 2 then fld 0x2A (0x002 + k) s else if k < 4 then fld 0x28 k s else fld 0x30 (0x012 + (k - 4)) s

/-- R423: the gain at position `i` of a frame of `F` samples that ramps from code `a` to code `b`, linearly in dB, as a
fixed-point number; `none` on a ramp to or from mute, which has no value in dB. -/
def volGain (a b i F : Nat) : Option Int :=
  if a = b then some (fxLevel a)
  else if 200 < a ∨ 200 < b then none
  else some (fxExp (-(fxLn10 * (a * (F - (i + 1)) + b * (i + 1) : Nat)) / (40 * F : Nat)))

/-- R423: one sample behind the volume. The spec gives no rounding: an open value says which of the two integers beside the
product it is (assumption log 50). -/
def volSample (a b i F : Nat) (w : Word) (s : State) : Word × State :=
  if w = 0 ∨ (a = b ∧ (a = 0 ∨ 200 < a)) then (if 200 < a ∧ a = b then 0 else w, s) else
  let (x, s) := takeFree s
  match volGain a b i F with
  | none => (x, s)
  | some g =>
    let p : Int := w.toInt * g
    (BitVec.ofInt 32 (p / fxOne + if x.getLsbD 0 && p % fxOne != 0 then 1 else 0), s)

/-- R291, R422: the frame that output endpoint `k` emits during the frame now opened; silence without a stream, and on SPK1
in parallel mode (R450). -/
def outFrame (k : Nat) (s : State) : SMap Word × State :=
  if k = 5 && spkParallel s then ([], s) else
  (readerFrame (6, k) s).foldl (fun (p : SMap Word × State) q =>
    let (w, t) := volSample (vget p.2.out.vol k 0) (outVol k p.2) q.1 (frameLen p.2) q.2 p.2
    (setSamp q.1 w p.1, t)) (([] : SMap Word), s)

/-- R16, R423: the outputs take their frames, and their ramps end with it. -/
def emitOutputs (s : State) : State :=
  let s := (List.range 6).foldl (fun t k =>
    let (f, t) := outFrame k t
    { t with out.frame := vset t.out.frame k f }) s
  { s with out.vol := Vector.ofFn fun k : Fin 6 => outVol k s }

/-- BRESET of the block of output endpoints `k` and `k + 1`: their volume is 0 dB at once, and they are silent. -/
def outRest (k : Nat) (s : State) : State :=
  { s with
    out.vol := vset (vset s.out.vol k 0) (k + 1) 0
    out.frame := vset (vset s.out.frame k []) (k + 1) [] }

/-! ### Line outputs (R424, R425) -/

/-- Line output `x` is enabled and not shut off; a quiet stop ramps it down (R505). -/
def loutOn (x : Nat) (s : State) : Bool :=
  (fld 0x28 0x001 s).testBit x && !s.dac.loutOff.getLsbD x && s.lcy.quiet.isNone

/-- R424: line output `x` drives: it is enabled or ramps to silence. -/
def loutDrives (x : Nat) (s : State) : Bool := loutOn x s || 0 < vget s.dac.loutRamp x 0

/-- R424: the outputs of the mask `m` begin their ramp of 2 ms to silence. -/
def loutFade (m : Nat) (s : State) : State :=
  { s with dac.loutRamp := Vector.ofFn fun x : Fin 2 => if m.testBit x then 7 else vget s.dac.loutRamp x 0 }

/-- DAC.LOUT_EN on commit; `was` is the value before. An output set to 0 ramps to silence, or leaves LOUT_OFF. -/
def loutEnable (was v : Nat) (s : State) : State :=
  let drove (x : Nat) : Bool := was.testBit x && !v.testBit x && !s.dac.loutOff.getLsbD x
  let s := loutFade (b2n (drove 1) * 2 + b2n (drove 0)) s
  { s with
    dac.loutOff := s.dac.loutOff &&& BitVec.ofNat 2 v
    dac.loutRamp := Vector.ofFn fun x : Fin 2 => if v.testBit x then 0 else vget s.dac.loutRamp x 0 }

/-- R424: `thirds` of a millisecond of the ramps have passed; an output that drives no more is in no limit. -/
def loutTick (thirds : Nat) (s : State) : State :=
  let s := { s with dac.loutRamp := s.dac.loutRamp.map (· - thirds) }
  { s with dac.loutLimit := s.dac.loutLimit &&& BitVec.ofNat 2 (b2n (loutDrives 1 s) * 2 + b2n (loutDrives 0 s)) }

/-- R425: the current limit of line output `x` starts or stops to act. -/
def execLoutSc (x : Fin 2) (acts : Bool) (s : State) : Out :=
  .next (
    if !loutDrives x s then s
    else if !acts then { s with dac.loutLimit := setBit s.dac.loutLimit x false }
    else if s.dac.loutLimit.getLsbD x then s
    else raise 0x4A4 { s with
      dac.loutLimit := setBit s.dac.loutLimit x true, dac.loutSc := setBit s.dac.loutSc x true })

/-- R425: the limit has acted for 500 ms without a break. -/
def execLoutShutoff (x : Fin 2) (s : State) : Out :=
  .next (
    if loutOn x s && s.dac.loutLimit.getLsbD x then
      { s with dac.loutOff := setBit s.dac.loutOff x true, dac.loutLimit := setBit s.dac.loutLimit x false }
    else s)

/-! ### Resistor-string DACs (R429, R430) -/

/-- DAC.RDAC_EN_x is in force. -/
def rdacEn (x : Nat) (s : State) : Bool := fld 0x28 (0x010 + x) s == 1

/-- R430: DAC.RDAC_EN_x on commit; disabling empties the queue. -/
def rdacEnable (x v : Nat) (s : State) : State :=
  if v = 1 && rdacEn x s then s else
  { s with dac.q := vset s.dac.q x [], dac.code := vset s.dac.code x none, dac.empty := setBit s.dac.empty x false }

/-- R430: a code is appended to the queue of an enabled RDAC; a full queue drops it. -/
def rdacPush (x : Nat) (c : BitVec 12) (s : State) : State :=
  let q := vget s.dac.q x []
  if !rdacEn x s then s
  else if 32 ≤ q.length then { s with dac.ovf := setBit s.dac.ovf x true }
  else { s with dac.q := vset s.dac.q x (q ++ [c]) }

/-- R430: one tick of the sample clock. -/
def execRdacSample (x : Fin 2) (s : State) : Out :=
  .next (
    if !rdacEn x s then s else
    match vget s.dac.q x [] with
    | c :: r => { s with
        dac.q := vset s.dac.q x r, dac.code := vset s.dac.code x (some c), dac.empty := setBit s.dac.empty x false }
    | [] =>
      if (vget s.dac.code x none).isNone || s.dac.empty.getLsbD x then s
      else raise 0x4A5 { s with
        dac.underrun := setBit s.dac.underrun x true, dac.empty := setBit s.dac.empty x true })

/-- R430, R472: the code that RDACx puts out where the state holds it: from its queue, or at Glint's start. -/
def rdacOut (x : Nat) (s : State) : Option Nat :=
  if rdacEn x s then some (((vget s.dac.code x none).map (·.toNat)).getD (fld 0x28 (0x016 + x) s))
  else if (glAt x s).state == .starting then some 2048
  else none

/-- R429, R472: RDACx_OUT is driven, from its queue or by Glint. -/
def rdacDrives (x : Nat) (s : State) : Bool := rdacEn x s || (glAt x s).state != .off

/-- R430, R445: a steward store to DAC.RDAC_DATA_x. -/
def execRdacDataStore (x : Fin 2) (w : Word) (s : State) : Out :=
  .next (if live s then rdacPush x (w.setWidth 12) s else s)

/-- R112: BRESET of DAC. -/
def dacBreset (s : State) : State := outRest 2 { resetFields 0x28 s with dac := {} }

/-- DAC.STATUS. -/
def dacStatus (s : State) : Word :=
  let d := s.dac
  BitVec.ofNat 32 ((vget d.q 1 []).length * 2 ^ 24 + (vget d.q 0 []).length * 2 ^ 16 + d.ovf.toNat * 2 ^ 8
    + d.underrun.toNat * 2 ^ 6 + d.loutOff.toNat * 2 ^ 4 + d.loutSc.toNat * 2 ^ 2 + d.loutLimit.toNat)

/-- A W1C write of DAC.STATUS. -/
def dacStatusW1c (w : Word) (s : State) : State :=
  let m (k : Nat) : BitVec 2 := ~~~((w >>> k).setWidth 2)
  { s with dac.ovf := s.dac.ovf &&& m 8, dac.underrun := s.dac.underrun &&& m 6, dac.loutSc := s.dac.loutSc &&& m 2 }

/-! ### Tone generators (R431 to R434) -/

/-- Generator `k`. -/
def toneAt (k : Nat) (s : State) : ToneGen := vget s.tone k {}

/-- Replaces generator `k`. -/
def setTone (k : Nat) (g : ToneGen) (s : State) : State := { s with tone := vset s.tone k g }

/-- Field at offset `o` of generator `k`. -/
def toneFld (k o : Nat) (s : State) : Nat := fld 0x29 (0x100 + 16 * k + o) s

/-- R434: generator `k` is held for the pilot or for an array calibration. -/
def toneHeld (k : Nat) (s : State) : Bool :=
  (k == 7 && (List.range 2).any fun x =>
      (vget s.spk.ch x {}).state == .running && fld 0x30 (0x016 + x) s == 1)
  || (k == 6 && calRunning 5 none s)

/-- R431: FREQ_k lies above 0.45 times the mix rate. -/
def toneAlias (k : Nat) (s : State) : Bool := 144 * mixHz (fld 0x01 0x010 s) < 20 * toneFld k 1 s

/-- Thirds of a millisecond that the sounding part of a cycle lasts, in a mode with cycles. -/
def toneOnThirds (k : Nat) (s : State) : Nat :=
  3 * (match toneFld k 4 s with | 1 => toneFld k 5 s | _ => toneFld k 8 s)

/-- R431, R432: the increment, `a / b` of the sounding part having passed; `none` where the spec states none (a
logarithmic sweep from or to 0). -/
def toneInc (k a b : Nat) (s : State) : Option Nat :=
  let rate := mixHz (fld 0x01 0x010 s)
  let f1 := toneFld k 1 s
  let f2 := toneFld k 2 s
  let den := 16 * rate
  match toneFld k 4 s with
  | 2 =>
    let num : Int := ((f1 * b : Nat) + ((f2 : Int) - f1) * min a b) * 2 ^ 32
    some ((2 * num + den * b) / (2 * den * b)).toNat
  | 3 =>
    if f1 = 0 ∨ f2 = 0 then none
    else
      let p := fxExp (fxLn f2 f1 * min a b / b)
      some ((2 * (f1 * p * 2 ^ 32) + fxOne * den) / (2 * fxOne * den)).toNat
  | _ => some ((2 * f1 * 2 ^ 32 + den) / (2 * den))

/-- R431: the sine of a phase at scale 2^47. -/
def toneSine (acc : Word) : Int :=
  let quad := acc.toNat / 2 ^ 30
  let u := acc.toNat % 2 ^ 30
  let u := if quad % 2 = 1 then 2 ^ 30 - u else u
  let j := u / 2 ^ 19
  let f : Int := (u % 2 ^ 19 / 2 ^ 3 : Nat)
  let s := if j = 2048 then 2 ^ 47 else sineTable j * 2 ^ 16 + f * (sineTable (j + 1) - sineTable j)
  if 2 ≤ quad then -s else s

/-- R432: the edge at `t / n` thirds of a millisecond into the sounding part, as a fraction over `3 · EDGE · n`. -/
def toneOnEdge (k t n : Nat) (s : State) : Nat :=
  let e := 3 * toneFld k 10 s * n
  let into := min t e
  if toneFld k 4 s = 0 then into else min into (min e (toneOnThirds k s * n - t))

/-- R432: the edge at `t / n` thirds of a millisecond into the part, as a numerator and a denominator. DESIGN CHOICE: EN = 0
within an edge ramps out from the level that the edge has reached (assumption log 50). -/
def toneEdge (k t n : Nat) (s : State) : Nat × Nat :=
  let e := 3 * toneFld k 10 s * n
  let g := toneAt k s
  match g.phase with
  | .on => if e = 0 then (1, 1) else (toneOnEdge k t n s, e)
  | .rampOut =>
    if e = 0 then (0, 1) else (toneOnEdge k (g.stopT * n) n s * (e - min (t - g.stopT * n) e), e * e)
  | _ => (0, 1)

/-- One sample of generator `k` at position `i` of a frame of `F` samples: its value before the fraction `edge`. -/
def toneSample (k i F fr : Nat) (p : SMap Word × ToneGen × State) : SMap Word × ToneGen × State :=
  let (f, g, s) := p
  let n := F
  let t := g.t * F + fr * i
  let (inc, s) := match toneInc k t (toneOnThirds k s * n) s with
    | some v => (v, s)
    | none => let (w, s) := takeFree s; (w.toNat, s)
  let acc := g.acc + BitVec.ofNat 32 inc
  let lvl0 := fxLevel g.level
  let lvl := lvl0 + (fxLevel (toneFld k 3 s) - lvl0) * (i + 1) / F
  let (e, d) := toneEdge k t n s
  let sounding : Bool := g.phase == .on || g.phase == .rampOut
  let num := toneSine acc * lvl * e
  let den : Int := 2 ^ 112 * d
  let w := if !sounding || toneAlias k s || toneHeld k s then 0 else (satQ ((2 * num + den) / (2 * den))).1
  (setSamp i w f, { g with acc := acc }, s)

/-- R431: the frame that generator `k` has made, and its state after it. -/
def toneFrame (k F fr : Nat) (s : State) : SMap Word × State :=
  if (toneAt k s).phase == .idle then ([], s) else
  let (f, g, s) := (List.range F).foldl (fun p i => toneSample k i F fr p) (([] : SMap Word), toneAt k s, s)
  (f, setTone k { g with t := g.t + fr, level := toneFld k 3 s } s)

/-- R433: the sum of two generators. -/
def addFrames (a b : SMap Word) : SMap Word :=
  b.foldl (fun m p => setSamp p.1 (satQ ((samp p.1 m).toInt + p.2.toInt)).1 m) a

/-- R433: generator `k` adds to the one before it. -/
def toneAdds (k : Nat) (s : State) : Bool := k % 2 == 1 && toneFld k 9 s == 1

/-- One pair of generators at the handover. -/
def tonePair (F fr : Nat) (s : State) (h : Nat) : State :=
  let k := 2 * h
  let (a, s) := toneFrame k F fr s
  let (b, s) := toneFrame (k + 1) F fr s
  let (a, b) := if toneAdds (k + 1) s then (addFrames a b, []) else (a, b)
  let put (k : Nat) (f : SMap Word) (s : State) : State :=
    match writesOf (7, k) s.strm.s with
    | some n => setStrm n { strm n s with wbuf := if toneHeld k s then [] else f } s
    | none => s
  put (k + 1) b (put k a s)

/-- The generators' part of the handover of a frame of `F` samples and `fr` thirds of a millisecond. -/
def toneHandover (F fr : Nat) (s : State) : State := (List.range 4).foldl (tonePair F fr) s

/-- R431, R432: TONE.EN_k at its tick. -/
def toneEnable (k v : Nat) (s : State) : State :=
  let g := toneAt k s
  if v = 1 then
    if toneFld k 0 s = 1 then s
    else setTone k { g with phase := .on, acc := 0, t := 0, stopT := 0, cycles := 0, level := toneFld k 3 s } s
  else if g.phase == .on then setTone k { g with phase := .rampOut, stopT := g.t } s
  else if g.phase == .rampOut then s
  else setTone k { g with phase := .idle } s

/-- R432: a cycle of generator `k` ends: another follows, or it is done. -/
def toneCycleEnd (k : Nat) (s : State) : State :=
  let g := toneAt k s
  let rep := toneFld k 7 s
  if rep ≠ 0 ∧ rep ≤ g.cycles + 1 then
    raise 0x4A6 (setTone k { g with phase := .done, t := 0, cycles := g.cycles + 1, done := true } s)
  else setTone k { g with phase := .on, t := 0, cycles := min 255 (g.cycles + 1) } s

/-- R432: the on, sweep or off period of generator `k`, or its ramp out, has run its time. -/
def execTonePhaseEnd (k : Fin 8) (s : State) : Out :=
  .next (
    let g := toneAt k s
    match g.phase with
    | .on =>
      if toneFld k 4 s = 0 ∨ g.t < toneOnThirds k s then s
      else if toneFld k 6 s = 0 then toneCycleEnd k s
      else setTone k { g with phase := .off, t := g.t - toneOnThirds k s } s
    | .off => if g.t < 3 * toneFld k 6 s then s else toneCycleEnd k s
    | .rampOut => if g.t < g.stopT + 3 * toneFld k 10 s then s else setTone k { g with phase := .idle, t := 0 } s
    | _ => s)

/-- R112: BRESET of TONE. -/
def toneBreset (s : State) : State := { resetFields 0x29 s with tone := Vector.replicate 8 {} }

/-- TONE.STATUS. -/
def toneStatus (s : State) : Word :=
  (List.range 8).foldl (fun w k =>
    setBit (setBit (setBit (setBit w (24 + k) (toneAlias k s)) (16 + k) (toneHeld k s)) (8 + k) (toneAt k s).done) k
      ((toneAt k s).phase != .idle && (toneAt k s).phase != .done)) 0

/-- A W1C write of TONE.STATUS. -/
def toneStatusW1c (w : Word) (s : State) : State :=
  (List.range 8).foldl (fun t k => setTone k { toneAt k t with done := (toneAt k t).done && !w.getLsbD (8 + k) } t) s

/-- R444: TONE.EN_k = 1 against pending values: its period is below twice its edge. -/
def toneEnBad (k : Nat) (s : State) : Bool :=
  let p (o : Nat) := pend 0x29 (0x100 + 16 * k + o) s
  (p 4 == 1 && p 5 < 2 * p 10) || (2 ≤ p 4 && p 8 < 2 * p 10)

/-! ### Headphone outputs (R426 to R428, R440) -/

/-- R440: the gate lets the outputs drive. -/
def hpGateOpen (s : State) : Bool := fld 0x2A 0x006 s == 0 || s.jack.state == .present

/-- HP.STATUS.IDLE: outputs Hi-Z and the pump stopped. -/
def hpIdle (s : State) : Bool := s.hp.state == .off || s.hp.state == .armed

/-- R426, R440: HP.EN on commit. -/
def hpEnable (v : Nat) (s : State) : State :=
  if v = 1 then
    match s.hp.state with
    | .off => { s with hp.state := if hpGateOpen s then .starting else .armed }
    | .stopping => if s.hp.removal then s else { s with hp.state := .starting }
    | _ => s
  else
    match s.hp.state with
    | .starting => { s with hp.state := .stopping }
    | .on => { s with hp.state := .stopping }
    | .armed => { s with hp.state := .off }
    | _ => s

/-- R427: HP.RAIL_MODE on commit while the outputs drive. -/
def hpRailMode (v : Nat) (s : State) : State :=
  if s.hp.state != .on || s.hp.removal then s
  else if v = 2 && (!s.hp.railHigh || s.hp.step == .down) then { s with hp.step := .up }
  else if v = 1 && (s.hp.railHigh || s.hp.step == .up) then { s with hp.step := .down }
  else s

/-- R426: the pump is up and the outputs drive. -/
def execHpStartComplete (s : State) : Out :=
  .next (
    if s.hp.state == .starting then
      glintPump (hpRailMode (fld 0x2A 0x004 s) { s with hp.state := .on, hp.railHigh := false, hp.step := .none })
    else s)

/-- R426, R439: the ramp to silence has ended; the outputs go Hi-Z and the pump stops. -/
def hpStopped (s : State) : State :=
  if s.hp.state == .stopping then
    { s with
      hp.state := if fld 0x2A 0x001 s == 1 then .armed else .off
      hp.railHigh := false, hp.step := .none, hp.removal := false }
  else s

/-- R426: the outputs have stopped. -/
def execHpStopComplete (s : State) : Out := .next (hpStopped s)

/-- R427: what the class-H rail meets. -/
def execHpRailStep (e : RailEvent) (s : State) : Out :=
  .next (
    if !(s.hp.state == .on || s.hp.state == .stopping) then s else
    let auto := fld 0x2A 0x004 s == 0 && !s.hp.removal
    match e with
    | .peak =>
      if auto && ((!s.hp.railHigh && s.hp.step == .none) || s.hp.step == .down) then { s with hp.step := .up } else s
    | .quiet => if auto && s.hp.railHigh && s.hp.step == .none && !glintHpHeld s then { s with hp.step := .down } else s
    | .settled =>
      match s.hp.step with
      | .up => { s with hp.step := .none, hp.railHigh := true }
      | .down => { s with hp.step := .none, hp.railHigh := false }
      | .none => s
    | .overLow =>
      if fld 0x2A 0x004 s == 1 && !s.hp.railHigh && !s.hp.removal then { s with hp.clip := true } else s)

/-- R428: a headphone output reaches its current limit. -/
def execHpIlim (s : State) : Out :=
  .next (
    if s.hp.state == .on || s.hp.state == .stopping then
      raiseIf (!s.hp.ilimFrame) 0x4A3 { s with hp.ilim := true, hp.ilimFrame := true }
    else s)

/-- R440: at a tick an armed output whose plug is present starts. -/
def hpTick (s : State) : State :=
  let s := { s with hp.ilimFrame := false }
  if s.hp.state == .armed && hpGateOpen s && fld 0x2A 0x001 s == 1 then { s with hp.state := .starting } else s

/-- R439 steps 1 and 2: the outputs ramp to zero for a removal. -/
def hpRemove (s : State) : State :=
  if fld 0x2A 0x006 s == 0 then s else
  if s.hp.state == .on || s.hp.state == .starting || s.hp.state == .stopping then
    { s with
      hp.state := .stopping, hp.removal := true
      hp.step := if s.hp.step == .none then .none else .down }
  else s

/-- Table 05.9: BRESET of HP, which is idle. -/
def hpBreset (s : State) : State := outRest 0 { resetFields 0x2A s with hp := {} }

/-- HP.STATUS. -/
def hpStatus (s : State) : Word :=
  let h := s.hp
  BitVec.ofNat 32 (b2n (hpIdle s) * 256 + b2n h.ilim * 128 + b2n h.clip * 64 + b2n (h.step != .none) * 32
    + b2n h.railHigh * 16
    + (match h.state with | .off => 0 | .starting => 1 | .on => 2 | .stopping => 3 | .armed => 4))

/-- A W1C write of HP.STATUS. -/
def hpStatusW1c (w : Word) (s : State) : State :=
  { s with hp.ilim := s.hp.ilim && !w.getLsbD 7, hp.clip := s.hp.clip && !w.getLsbD 6 }

/-! ### The jack (R435 to R443) -/

/-- R435: how a JACK_DET code reads: present, absent, or neither. -/
def jackReads (code : Nat) (s : State) : Option Bool :=
  let rev := fld 0x2B 0x002 s == 1
  if 2048 ≤ code then some (!rev) else if code ≤ 1024 then some rev else none

/-- R375, R437: MIC.BIAS1_JACK. -/
def biasByJack (s : State) : Bool := fld 0x18 0x023 s == 1

/-- R375: MICBIAS`n` is enabled. -/
def biasOn (n : Nat) (s : State) : Bool :=
  if n == 1 && biasByJack s then s.jack.bias else (fld 0x18 0x020 s).testBit n

/-- R436: one system conversion of JACK_DET; `mic`: HS_MIC is above MICBIAS1 − 0.10 V. -/
def jackResult (code : Nat) (mic : Bool) (s : State) : State :=
  if s.jack.state == .disabled then s else
  let r := jackReads code s
  let open_ := mic && biasOn 1 s && fld 0x2B 0x004 s == 1
  let isP := r == some true
  let isA := r == some false
  let j := { s.jack with
    detRaw := if isP then true else if isA then false else s.jack.detRaw
    micOpen := open_
    present := if isP then s.jack.present + 1 else 0
    absent := if isA then s.jack.absent + 1 else 0
    openRun := isA && open_ && (s.jack.absent == 0 || s.jack.openRun) }
  let j := { j with state := match j.state with
    | .absent => if isP then .inserting else .absent
    | .inserting => if isP then .inserting else .absent
    | st => st }
  { s with jack := j }

/-- R436: every result since the first present one has read present, one every 40 µs, for INS_DEBOUNCE ms. -/
def jackInsertDue (s : State) : Bool := 1 ≤ s.jack.present && fld 0x2B 0x003 s * 1000 ≤ (s.jack.present - 1) * 40

/-- R436: every result since the first absent one has read absent, for 1 ms, or for 100 µs with the mic pole open. -/
def jackRemoveDue (s : State) : Bool :=
  1 ≤ s.jack.absent && (1000 ≤ (s.jack.absent - 1) * 40 || (s.jack.openRun && 100 ≤ (s.jack.absent - 1) * 40))

/-- R436, R437: a plug counts as inserted. -/
def execJackInserted (s : State) : Out :=
  .next (
    if !(s.jack.state == .inserting && jackInsertDue s) then s
    else if biasByJack s then { s with jack.state := .detecting, jack.bias := true }
    else raise 0x4A0 { s with jack.state := .present, jack.typ := .untested })

/-- R437: after 10 ms of bias the type is set from HS_MIC, in mV. -/
def execJackTypeDetect (mv : Nat) (s : State) : Out :=
  .next (
    if s.jack.state != .detecting then s else
    let bias := 1800 + 100 * fld 0x18 0x022 s
    let t : JackType := if mv < 100 then .headphone else if bias - 100 < mv then .line else .headset
    raise 0x4A0 { s with jack.state := .present, jack.typ := t, jack.bias := t == .headset })

/-- R438, R442: removal is confirmed. -/
def execJackRemovalConfirmed (s : State) : Out :=
  .next (
    if !jackRemoveDue s then s else
    match s.jack.state with
    | .present => hpRemove (glintHpClose { s with jack.state := .removing, jack.btn := 0, jack.btnCand := 0, jack.btnRun := 0 })
    | .detecting => { s with jack.state := .absent, jack.typ := .none, jack.bias := false, jack.present := 0 }
    | _ => s)

/-- R439: the removal sequence ends. -/
def execJackRemovalComplete (s : State) : Out :=
  .next (
    if s.jack.state != .removing then s else
    let s := if s.hp.removal then hpStopped s else s
    raise 0x4A1 { s with jack.state := .absent, jack.typ := .none, jack.bias := false, jack.present := 0 })

/-- R441: the button state that a result of input 1 stands for: 1 to 4, or 0 released. -/
def btnOf (code : Nat) (s : State) : Nat :=
  if code < fld 0x2B 0x010 s then 1 else if code < fld 0x2B 0x011 s then 2 else if code < fld 0x2B 0x012 s then 3
  else if code < fld 0x2B 0x013 s then 4 else 0

/-- R441: buttons are classified. -/
def btnOn (s : State) : Bool := fld 0x2B 0x005 s == 1 && s.jack.typ == .headset && s.jack.state == .present

/-- R441: one SAR0 result of input 1. -/
def btnResult (code : Nat) (s : State) : State :=
  if !btnOn s then s else
  let b := btnOf code s
  { s with
    jack.btnStale := false, jack.btnCand := b
    jack.btnRun := if b = s.jack.btnCand then s.jack.btnRun + 1 else 1 }

/-- R441: a new button state is accepted: the results of BTN_DEBOUNCE ms, at least two, have agreed on it. -/
def execJackButton (s : State) : Out :=
  .next (
    if btnOn s && 2 ≤ s.jack.btnRun && s.jack.btnCand != s.jack.btn then
      raise 0x4A2 { s with jack.btn := s.jack.btnCand }
    else s)

/-- R441: no result of input 1 for 20 ms. -/
def execJackButtonStale (s : State) : Out :=
  .next (
    if !btnOn s then s
    else raiseIf (s.jack.btn != 0) 0x4A2 { s with
      jack.btnStale := true, jack.btn := 0, jack.btnCand := 0, jack.btnRun := 0 })

/-- JACK.EN on commit. -/
def jackEnable (v : Nat) (s : State) : State :=
  if v = 1 then (if s.jack.state == .disabled then { s with jack := { state := .absent } } else s)
  else if s.jack.state == .disabled then s
  else hpRemove { s with jack := {} }

/-- R112, R443: BRESET of JACK: an enabled block restarts in ABSENT. -/
def jackBreset (s : State) : State :=
  let on := s.jack.state != .disabled
  let s := if on then hpRemove s else s
  { resetFields 0x2B s with jack := { state := if on then .absent else .disabled } }

/-- JACK.STATUS.STATE. -/
def jackStateCode : JackState → Nat
  | .disabled => 0 | .absent => 1 | .inserting => 2 | .detecting => 3 | .present => 4 | .removing => 5

/-- JACK.STATUS.TYPE. -/
def jackTypeCode : JackType → Nat
  | .none => 0 | .headphone => 1 | .headset => 2 | .line => 3 | .untested => 4

/-- JACK.STATUS. -/
def jackStatus (s : State) : Word :=
  let j := s.jack
  BitVec.ofNat 32 (b2n j.detRaw * 2 ^ 13 + b2n j.btnStale * 2 ^ 12 + b2n j.micOpen * 2 ^ 11 + j.btn % 8 * 2 ^ 8
    + jackTypeCode j.typ * 2 ^ 4 + jackStateCode j.state)

end Sys2Proof.Machine
end

