-- ==== Sys2Proof/Machine/Conv.lean ====
section
/-! DEFINITION. 19_input_converters: the audio ADCs' status, the pipeline converters, the SAR converters with their
scans, urgent requests, results and window comparators. A conversion's code comes from outside, corrections applied
(R415). -/

namespace Sys2Proof.Machine

/-- R402: channel `x` writes a stream that has a reader. -/
def micRead (x : Nat) (m : SMap Stream) : Bool := m.any fun p => p.2.writer == some (5, x) && !p.2.readers.isEmpty

/-- R402, Table 19.1: channel `x` is muted for a forced self-test. -/
def aadcMuted (x : Nat) (s : State) : Bool :=
  micRead x s.strm.s && (performing s).any fun o => match o with | .calrun 4 f u => f && u == x | _ => false

/-- R401, R402: a MIC_ARRAY perform phase includes AADC channel `x`. -/
def arrayHas (x : Nat) (s : State) : Bool := calRunning 5 none s && (fld 0x18 0x030 s).testBit x

/-- R371, R401, R402, R381: AADC `x` is powered. -/
def aadcPowered (x : Nat) (s : State) : Bool :=
  (fld 0x18 0x001 s).testBit x || calRunning 4 (some x) s || calRunning 3 (some x) s || arrayHas x s

/-- AADC.STATUS. The common mode of a powered input comes from the board at the moment of the read: CM_OK is open there, and
the last measured for one that is not powered (assumption log 50). -/
def aadcStatus (s : State) : Word × State :=
  let (free, s) := takeFree s
  ((List.range 4).foldl (fun w x =>
    let ok := if aadcPowered x s then free.getLsbD x else s.aadc.cmOk.getLsbD x
    setBit (setBit (setBit w (8 + x) ok) (4 + x) (calRunning 4 (some x) s)) x (aadcPowered x s)) 0, s)

/-- AADC.TEST_RESULT_x. -/
def aadcTest (x : Nat) (s : State) : Word :=
  BitVec.ofNat 32 (vget s.aadc.testCode x 0 * 2 ^ 24 + vget s.aadc.testSub x 0 * 2 ^ 20
    + (vget s.aadc.testLevel x 0).toNat * 2 ^ 8 + (vget s.aadc.testThdn x 0).toNat)

/-- R112: BRESET of AADC. -/
def aadcBreset (s : State) : State := { resetFields 0x20 s with aadc := {} }

/-! ### Pipeline converters (R404 to R408) -/

/-- Table 19.2: converter `k` is powered. DEDUCED: in parallel mode, where PIPE1 and PIPE3 share the current of channel 0
(R450), all four are (assumption log 50). -/
def pipePowered (k : Nat) (s : State) : Bool :=
  if k < 4 then !spkOff (if spkParallel s then 0 else k / 2) s else fld 0x32 (0x010 + (k - 4)) s == 1

/-- R406: a full averaging window has completed. -/
def execPipeAvgWindow (k : Fin 6) (s : State) : Out :=
  .next (
    if live s && pipePowered k s then { s with pipe.converged := setBit s.pipe.converged k true } else s)

/-- R408: four consecutive conversions at a limit code. -/
def execPipeOvr (k : Fin 6) (s : State) : Out :=
  .next (
    if live s && pipePowered k s then
      raiseIf (!s.pipe.ovrFrame) 0x48A { s with pipe.ovr := setBit s.pipe.ovr k true, pipe.ovrFrame := true }
    else s)

/-- R407: CALRUN PIPE_AVG at commit: the averaging history is cleared. -/
def pipeAvgClear (k : Nat) (s : State) : State := { s with pipe.converged := setBit s.pipe.converged k false }

/-- R112: BRESET of PIPE; PIPE0 to PIPE3 go on converting. -/
def pipeBreset (s : State) : State := { resetFields 0x21 s with pipe := {} }

/-- PIPE.STATUS. -/
def pipeStatus (s : State) : Word :=
  (List.range 6).foldl (fun w k =>
    let on := pipePowered k s
    setBit (setBit (setBit w (16 + k) (s.pipe.ovr.getLsbD k)) (8 + k) (on && s.pipe.converged.getLsbD k)) k on) 0

/-! ### SAR inputs (R409) -/

/-- What a SAR input converts. -/
inductive SarNode
  | jackDet | hsMic | hpGsense | vsup | vspk | dieTemp | spkTemp | biasCurrent (n : Fin 2) | vkeep | vana | vcore | vusb
  | vbus | hpVpos | ground | ref120 | aux (i : Fin 4) | rdacOut (x : Fin 2) | micbias (n : Fin 2) | pttN
  deriving DecidableEq, Repr

/-- Table 19.3: the node at input `i` of SAR `n`, and the divider before the converter as a fraction. A bias current gives
0.2 V for each milliampere. -/
def sarInput (n i : Nat) : SarNode × Nat × Nat :=
  match n, i with
  | 0, 0 => (.jackDet, 2, 3)
  | 0, 1 => (.hsMic, 2, 5)
  | 0, 2 => (.hpGsense, 1, 1)
  | 0, 3 => (.vsup, 1, 4)
  | 0, 4 => (.vspk, 1, 10)
  | 0, 5 => (.dieTemp, 1, 1)
  | 0, 6 => (.biasCurrent 0, 1, 5)
  | 0, 7 => (.biasCurrent 1, 1, 5)
  | 0, 8 => (.vkeep, 1, 4)
  | 0, 9 => (.vana, 1, 2)
  | 0, 10 => (.vcore, 1, 1)
  | 0, 11 => (.vusb, 1, 4)
  | 0, 12 => (.vbus, 1, 5)
  | 0, 13 => (.hpVpos, 1, 1)
  | 1, 0 => (.aux 0, 1, 1)
  | 1, 1 => (.aux 1, 1, 1)
  | 1, 2 => (.aux 2, 1, 1)
  | 1, 3 => (.aux 3, 1, 1)
  | 1, 4 => (.hsMic, 2, 5)
  | 1, 5 => (.vsup, 1, 4)
  | 1, 6 => (.spkTemp, 1, 1)
  | 1, 7 => (.vspk, 1, 10)
  | 1, 8 => (.rdacOut 0, 1, 1)
  | 1, 9 => (.rdacOut 1, 1, 1)
  | 1, 10 => (.micbias 0, 2, 5)
  | 1, 11 => (.micbias 1, 2, 5)
  | 1, 12 => (.pttN, 1, 4)
  | 1, 13 => (.jackDet, 2, 3)
  | _, 14 => (.ground, 1, 1)
  | _, _ => (.ref120, 1, 1)

/-- R409: the code of `uv` microvolts at the converter's input against a reference of `ref` microvolts. -/
def sarCode (uv ref : Nat) : Nat := min 4095 ((2 * 4096 * uv + ref) / (2 * ref))

/-! ### SAR scans (R410 to R412) -/

/-- SAR `n`. -/
def sarAt (n : Nat) (s : State) : SarState := vget s.sar n {}

/-- Replaces SAR `n`. -/
def setSar (n : Nat) (x : SarState) (s : State) : State := { s with sar := vset s.sar n x }

/-- The block of SAR `n`. -/
def sarBlk (n : Nat) : Nat := 0x22 + n

/-- R413: the SARs run in RUN and LISTEN. DESIGN CHOICE: a scan in progress at the entry to STANDBY goes on at the return
(assumption log 50). -/
def sarsRun (s : State) : Bool := live s && (s.sup.modeCur == .run || s.sup.modeCur == .listen)

/-- R410, R411: the reference of a conversion that starts now: the scan's own while one is in progress. DEDUCED: between
scans the field's (assumption log 50). -/
def sarRefNow (n : Nat) (s : State) : Nat := if (sarAt n s).scanning then (sarAt n s).ref else fld (sarBlk n) 0x002 s

/-- R410: the SAR waits for REFRDY. -/
def sarRefHold (n : Nat) (s : State) : Bool := sarRefNow n s == 0 && !(sarAt n s).refrdy

/-- SARn.STATUS.CAL_ACTIVE: a self-calibration is in its measurement (R415): none of the scan in progress is left and
the reference has settled. -/
def sarCal (n : Nat) (s : State) : Bool :=
  calRunning 1 (some n) s && !(sarAt n s).scanning && !sarRefHold n s

/-- SARn.STATUS.REF_WAIT: something waits for REFRDY. -/
def sarRefWait (n : Nat) (s : State) : Bool :=
  let x := sarAt n s
  sarRefHold n s && (x.late || x.trig || x.urgent.isSome || calRunning 1 (some n) s)

/-- R411: a scan starts with the settings in force. -/
def sarBegin (n : Nat) (s : State) : State :=
  let f (k : Nat) := fld (sarBlk n) k s
  setSar n { sarAt n s with
    scanning := true, pos := 0, late := false, trig := false, ref := f 0x002, seqlen := f 0x004
    seq := Vector.ofFn fun j : Fin 16 => f (0x010 + j.val) } s

/-- R411, R412: a delayed or triggered scan starts once nothing holds the SAR. -/
def sarNext (n : Nat) (s : State) : State :=
  let x := sarAt n s
  if (x.late || x.trig) && !x.scanning && !sarCal n s && !sarRefHold n s && fld (sarBlk n) 0x001 s == 1 then sarBegin n s
  else s

/-- R411, R412: a periodic scan start falls due on its grid. -/
def execSarScanStart (n : Fin 2) (s : State) : Out :=
  .next (
    if !sarsRun s || fld (sarBlk n) 0x001 s == 0 || fld (sarBlk n) 0x005 s == 0 then s else
    let x := sarAt n s
    if x.scanning || sarCal n s || sarRefHold n s then setSar n { x with scanLate := true, late := true } s
    else sarBegin n s)

/-- R410: the reference buffer has settled. -/
def execSarRefrdy (n : Fin 2) (s : State) : Out :=
  .next (
    if live s && fld (sarBlk n) 0x003 s == 1 then sarNext n (setSar n { sarAt n s with refrdy := true } s) else s)

/-- R410: SARn.REFBUF_EN on commit. -/
def sarRefbuf (n v : Nat) (s : State) : State := if v = 1 then s else setSar n { sarAt n s with refrdy := false } s

/-- R411, R412, R415: what waited for the SARs starts once nothing holds them. -/
def sarsNext (s : State) : State := sarNext 1 (sarNext 0 s)

/-- R411: SARn.EN on commit: no further scan starts once it is 0. -/
def sarEnable (n v : Nat) (s : State) : State :=
  if v = 1 then sarNext n s else setSar n { sarAt n s with late := false, trig := false } s

/-- R411: SARn.TRIGGER on commit. -/
def sarTrigger (n : Nat) (s : State) : State := sarNext n (setSar n { sarAt n s with trig := true } s)

/-- R414: SARn.URGENT on commit. -/
def sarUrgent (n : Nat) (i : Fin 16) (s : State) : State := setSar n { sarAt n s with urgent := some i } s

/-! ### Results (R416, R417) -/

/-- R416: one result of input `i` in its mode. -/
def sarStore (n i pos : Nat) (v : BitVec 12) (urg : Bool) (s : State) : State :=
  let x := sarAt n s
  if (fld (sarBlk n) 0x008 s).testBit i then
    if 64 ≤ x.queue.length then raise (0x488 + n) (setSar n { x with queueOvr := true } s)
    else
      let e : Word := BitVec.ofNat 32 (2 ^ 31 + b2n urg * 2 ^ 30 + pos % 16 * 2 ^ 24 + i * 2 ^ 16 + v.toNat)
      setSar n { x with queue := x.queue ++ [e] } s
  else
    setSar n { x with
      value := vset x.value i v, overrun := setBit x.overrun i (x.overrun.getLsbD i || x.new.getLsbD i)
      new := setBit x.new i true, wasUrgent := setBit x.wasUrgent i urg } s

/-- R417: comparator `k` is evaluated on a result of its input. -/
def sarWindow (n i : Nat) (v : BitVec 12) (s : State) (k : Nat) : State :=
  let f (o : Nat) := fld (sarBlk n) (0x100 + 16 * k + o) s
  if f 0 != 1 || f 1 != i then s else
  let x := sarAt n s
  let inside : Bool := f 2 ≤ v.toNat && v.toNat ≤ f 3
  let m := if f 4 = 1 then inside else !inside
  let run := if m then min 16 (vget x.run k 0 + 1) else 0
  let fire := m && f 5 ≤ run && !x.hit.getLsbD k
  raiseIf fire (0x490 + 8 * n + k) (setSar n { x with
    run := vset x.run k run, active := setBit x.active k m, hit := setBit x.hit k (m && (fire || x.hit.getLsbD k))
    fired := if fire then setBit x.fired k true else x.fired } s)

/-- R416, R417, R441: everything a result of input `i` does. -/
def sarResult (n i pos : Nat) (v : BitVec 12) (urg : Bool) (s : State) : State :=
  let s := sarStore n i pos v urg s
  let s := (List.range 8).foldl (sarWindow n i v) s
  if n == 0 && i == 1 then btnResult v.toNat s else s

/-- R411, R414, R416: a sequence or urgent conversion completes with code `v`; an urgent request goes first.
`vrefLow`: VREFX is below 1.00 V. -/
def execSarConversion (n : Fin 2) (v : BitVec 12) (vrefLow : Bool) (s : State) : Out :=
  .next (
    let x := sarAt n s
    if !sarsRun s || sarRefHold n s || sarCal n s then s else
    match x.urgent with
    | some i =>
      let s := setSar n { x with
        urgent := none, urgNew := true, urgInput := i.val, urgValue := v
        vrefxLow := vrefLow && sarRefNow n s == 1 } s
      sarResult n i x.pos v true s
    | none =>
      if !x.scanning then s else
      let last : Bool := x.seqlen ≤ x.pos + 1
      let s := setSar n { x with
        pos := if last then 0 else x.pos + 1, scanning := !last, vrefxLow := vrefLow && x.ref == 1 } s
      sarNext n (sarResult n (vget x.seq x.pos 0 % 16) x.pos v false s))

/-- R413: the die temperature in quarters of a degree that a code stands for. -/
def dieQuarters (code : Nat) : Int := 100 + ((code : Int) - 2048) * 4000 / 6827

/-- R413: SAR0's system conversions take turns between JACK_DET and the die temperature. -/
def execSarSystemConversion (code : BitVec 12) (mic : Bool) (s : State) : Out :=
  .next (
    if !sarsRun s || sarCal 0 s then s else
    let x := sarAt 0 s
    if x.sysTurn then setSar 0 { x with sysTurn := false, sysTemp := dieQuarters code.toNat } s
    else jackResult code.toNat mic (setSar 0 { x with sysTurn := true, sysJack := code } s))

/-- R416: a read of SARn.QUEUE. -/
def sarPop (n : Nat) (s : State) : Word × State :=
  match (sarAt n s).queue with
  | e :: r => (e, setSar n { sarAt n s with queue := r } s)
  | [] => (0, s)

/-- R416: a read of SARn.QUEUE pops one entry. -/
def execSarQueuePop (n : Fin 2) (s : State) : Out := .next (sarPop n s).2

/-- R112: BRESET of a SAR; on SAR0 the system conversions go on. -/
def sarBreset (n : Nat) (s : State) : State :=
  let x := sarAt n s
  setSar n { sysTemp := x.sysTemp, sysJack := x.sysJack, sysTurn := x.sysTurn } (resetFields (sarBlk n) s)

/-! ### Registers (R420) -/

/-- SARn.STATUS. -/
def sarStatus (n : Nat) (s : State) : Word :=
  let x := sarAt n s
  BitVec.ofNat 32 (b2n x.queueOvr * 2 ^ 23 + x.queue.length * 2 ^ 16 + x.pos % 16 * 2 ^ 8 + b2n x.vrefxLow * 2 ^ 7
    + b2n x.scanLate * 2 ^ 6 + b2n x.urgent.isSome * 2 ^ 5 + b2n (sarRefWait n s) * 2 ^ 4 + b2n x.refrdy * 2 ^ 3
    + b2n (sarCal n s) * 2 ^ 2 + b2n x.scanning * 2)

/-- A W1C write of SARn.STATUS. -/
def sarStatusW1c (n : Nat) (w : Word) (s : State) : State :=
  let x := sarAt n s
  setSar n { x with queueOvr := x.queueOvr && !w.getLsbD 23, scanLate := x.scanLate && !w.getLsbD 6 } s

/-- SARn.RESULT_i; a read clears NEW and OVR. -/
def sarReadResult (n i : Nat) (s : State) : Word × State :=
  let x := sarAt n s
  (BitVec.ofNat 32 (b2n (x.wasUrgent.getLsbD i) * 2 ^ 14 + b2n (x.overrun.getLsbD i) * 2 ^ 13 + b2n (x.new.getLsbD i) * 2 ^ 12
      + (vget x.value i 0).toNat),
   setSar n { x with new := setBit x.new i false, overrun := setBit x.overrun i false } s)

/-- SARn.URGENT_RESULT; a read clears NEW. -/
def sarReadUrgent (n : Nat) (s : State) : Word × State :=
  let x := sarAt n s
  (BitVec.ofNat 32 (b2n x.urgNew * 2 ^ 16 + x.urgInput % 16 * 2 ^ 12 + x.urgValue.toNat),
   setSar n { x with urgNew := false } s)

/-- SARn.WIN_STATUS. -/
def sarWinStatus (n : Nat) (s : State) : Word :=
  BitVec.ofNat 32 ((sarAt n s).fired.toNat * 2 ^ 8 + (sarAt n s).active.toNat)

/-- A W1C write of SARn.WIN_STATUS. -/
def sarWinW1c (n : Nat) (w : Word) (s : State) : State :=
  setSar n { sarAt n s with fired := (sarAt n s).fired &&& ~~~((w >>> 8).setWidth 8) } s

/-- R419: the scan's duration in ns against pending values. -/
def sarScanNs (n : Nat) (s : State) : Nat :=
  ((List.range (pend (sarBlk n) 0x004 s)).map fun j => 875 + 250 * (pend (sarBlk n) (0x010 + j) s / 16)).sum

/-- R419: SCAN_PERIOD would lie between 1 µs and the scan's duration rounded up. -/
def sarScanBad (n : Nat) (s : State) : Bool :=
  let p := pend (sarBlk n) 0x005 s
  1 ≤ p && p ≤ (sarScanNs n s + 999) / 1000

end Sys2Proof.Machine
end

