-- ==== Sys2Proof/Machine/Clock.lean ====
section
/-! DEFINITION. 04_clocks_and_domains: the reference monitor, the main PLL. -/

namespace Sys2Proof.Machine

/-- R75: the count lies in the range of 24.576 MHz. -/
def countFull (n : Nat) : Bool := 690 ≤ n && n ≤ 810

/-- R75: the count lies in the range of a 12.288 MHz MCLK. -/
def countHalf (n : Nat) : Bool := 345 ≤ n && n ≤ 405

/-- R75: the MCLK frequency detector's part of one RC period (CKMODE 0b01): the frequency found valid for two
consecutive periods. -/
def mclkDetect (n : Nat) (s : State) : State :=
  let kind : BitVec 2 := if countFull n then 1 else if countHalf n then 2 else 0
  if kind != 0 && s.clk.mclkKind == kind then
    { s with clk.mclkKind := kind, clk.mclkFound := true, clk.mclkHalf := kind == 2 }
  else { s with clk.mclkKind := kind }

/-- R75: the count is valid: in the range of the frequency in force; with MCLK, before a frequency has been found, in either
range. -/
def countValid (n : Nat) (s : State) : Bool :=
  if s.rst.ckmode != 1 then countFull n
  else if !s.clk.mclkFound then countFull n || countHalf n
  else if s.clk.mclkHalf then countHalf n else countFull n

/-- R75, R76: the monitor judges the count of one RC period. -/
def execRefMonitorPeriod (n : Nat) (s : State) : Out :=
  .next (
    if !live s || s.rst.ckmode.toNat ≥ 2 then s else
    let ok := countValid n s
    let s := if s.rst.ckmode == 1 then mclkDetect n s else s
    if ok then { s with clk.refBad := 0, clk.refGood := min 32 (s.clk.refGood + 1) }
    else { s with clk.refBad := min 2 (s.clk.refBad + 1), clk.refGood := 0 })

/-- R75, R76: the reference is declared lost. With the crystal or MCLK the monitor must have found two consecutive
counts out of range; the loss of SOFs or of ring lock comes from outside. -/
def refLost (s : State) : State :=
  if s.clk.refState == .locked || s.clk.refState == .acquiring then raise 0x403 { s with clk.refState := .holdover }
  else s

/-- R75, R76: the reference is declared lost and held over. -/
def execRefLost (s : State) : Out :=
  .next (if live s && (s.rst.ckmode.toNat ≥ 2 || s.clk.refBad == 2) then refLost s else s)

/-- R72, R75: the reference is valid: 32 good RC periods, start-of-frame packets on a bus that is not suspended, or the ring
receiver in symbol lock. -/
def refValid (s : State) : Bool :=
  match s.rst.ckmode.toNat with
  | 2 =>
    match s.usb.state with
    | .default | .addressed | .configured | .dfu => true
    | _ => false
  | 3 => s.ring.lock
  | _ => s.clk.refGood == 32

/-- R76: the reference has been valid for 32 RC periods; the trim oscillator steers back to it. -/
def execRefRestored (s : State) : Out :=
  .next (
    if live s && (s.clk.refState == .holdover || s.clk.refState == .freeRun)
        && refValid s then
      { s with clk.refState := .acquiring }
    else s)

/-- R74, R95: steering ends; REF_STATE becomes locked. -/
def execRefLocked (s : State) : Out :=
  .next (if live s && s.clk.refState == .acquiring then raise 0x404 { s with clk.refState := .locked } else s)

/-- R78: the lock detector drops while the reference is valid. DEDUCED: while the reference is in holdover or free run a drop
has no effect, since R78 speaks of a valid reference only (assumption log 41). -/
def execPllUnlock (s : State) : Out :=
  .next (
    if live s && s.clk.pllLock && (s.clk.refState == .locked || s.clk.refState == .acquiring) then
      raise 0x405 { s with clk.pllLock := false }
    else s)

/-- R78: lock returns within 2 ms. -/
def execPllRelocked (s : State) : Out :=
  .next (if live s && s.sup.modeCur == .run then { s with clk.pllLock := true } else s)

/-- R78: lock has not returned within 2 ms. -/
def execPllUnlockTimeout (same : Option ResetCause) (s : State) : Out :=
  .next (if live s && s.sup.modeCur == .run && !s.clk.pllLock then assertWith .clkFail same s else s)

end Sys2Proof.Machine
end

