-- ==== Sys2Proof/Machine/Sp.lean ====
section
/-! DEFINITION. 15_serial_audio_ports and the dual-clock queues and ASRC banks of 04_clocks_and_domains (R83 to R88):
sample periods through the queues, the ASRC modes, the serial port states. A sample period is kept by channel, an
unlisted channel zero. -/

namespace Sys2Proof.Machine

/-! ### Rates and bank modes (R85 to R87) -/

/-- Table 15.5: the rate of SPn.RATE. -/
def spHz (code : Nat) : Nat :=
  [8000, 11025, 16000, 22050, 24000, 32000, 44100, 48000, 88200, 96000, 176400, 192000].getD code 0

/-- Table 16.8: the rate of bit `k` of USB.RATES. -/
def usbHz (k : Nat) : Nat := [16000, 32000, 44100, 48000, 88200, 96000].getD k 0

/-- R87: the ratio of a port rate to the mix rate lies from 0.25 to 4. -/
def rateOk (hz mix : Nat) : Bool := mix ≤ 4 * hz && hz ≤ 4 * mix

/-- The block of port index `k` (R83): SP0 to SP3, USB, RING. -/
def portBlk (k : Nat) : Nat := 0x10 + k

/-- The queues of port `k`. -/
def portQ (k : Nat) (s : State) : PortQ := vget s.clk.ports k {}

/-- Replaces the queues of port `k`. -/
def setPortQ (k : Nat) (q : PortQ) (s : State) : State := { s with clk.ports := vset s.clk.ports k q }

/-- Serial port `n`. -/
def spAt (n : Nat) (s : State) : SpState := vget s.sp n {}

/-- Replaces serial port `n`. -/
def setSp (n : Nat) (x : SpState) (s : State) : State := { s with sp := vset s.sp n x }

/-- The rate of port `k`. -/
def portHz (k : Nat) (s : State) : Nat :=
  if k < 4 then spHz (fld (portBlk k) 0x004 s) else if k = 4 then usbHz s.usb.rate else 48000

/-- R86: the clock of port `k` is derived from the core. -/
def portDerived (k : Nat) (s : State) : Bool :=
  if k < 4 then fld (portBlk k) 0x003 s == 1 else if k = 4 then true else s.ring.role || s.rst.ckmode == 3

/-- CLK.ASRC_MODE of bank `k` is SYNC. -/
def portSync (k : Nat) (s : State) : Bool := fld 0x01 (0x020 + k) s == 1

/-- The modes of Table 04.5. -/
inductive BankMode where
  | bypass
  | fixed
  | tracking
  deriving DecidableEq, Repr

/-- R85, R86: the mode of bank `k`. -/
def bankMode (k : Nat) (s : State) : BankMode :=
  if portDerived k s || portSync k s then
    if portHz k s = mixHz (fld 0x01 0x010 s) then .bypass else .fixed
  else .tracking

/-- Bank `k` is in use: its port is enabled. -/
def bankUsed (k : Nat) (s : State) : Bool :=
  if k < 4 then (spAt k s).state != .off else if k = 4 then s.usb.altOut || s.usb.altIn else s.ring.state != .off

/-- CLK.ASRC_STATUS.LOCK of bank `k`: locked, or not in use. DEDUCED: the meaning of Table 04.10 decides what an unused bank
reads, 1, also at reset, where the table's reset column has 0 (assumption log 41). -/
def bankLock (k : Nat) (s : State) : Bool :=
  !bankUsed k s || bankMode k s != .tracking || s.clk.trackLock.getLsbD k

/-- CLK.ASRC_STATUS (Table 04.10). -/
def asrcStatus (s : State) : Word :=
  let w : Word := s.clk.asrcLost.setWidth 32 <<< 16
  (List.range 6).foldl (fun w k =>
    setBit (setBit w (8 + k) (bankUsed k s && bankMode k s == .bypass)) k (bankLock k s)) w

/-! ### Channels and depths (R83) -/

/-- R325, R328: USB audio runs: configured, not suspended and not in L1. -/
def usbStreams (s : State) : Bool := s.usb.state == .configured

/-- R324: how many channels a direction carries at full speed. -/
def fsCap (wide : Bool) (hz : Nat) : Nat := 1023 / ((if wide then 3 else 2) * ((hz + 999) / 1000 + 1))

/-- R324: the highest rate reported by a descriptor set. -/
def topRate (d : UsbDesc) : Nat :=
  (List.range 6).foldl (fun m k => if d.rates.testBit k then max m (usbHz k) else m) 0

/-- The USB channels of a direction in force (R324). -/
def usbCh (inDir : Bool) (s : State) : Nat :=
  let d := s.usb.desc
  let n := if inDir then d.inCh else d.outCh
  if s.usb.speed then n else min n (fsCap d.wide (topRate d))

/-- Depth of a queue of port `k` in words (Table 04.3). -/
def portDepth (k : Nat) : Nat := if k < 4 then 128 else if k = 4 then 96 else 768

/-- C: the channel count of port `k` in a direction; `out` is toward the port. -/
def portCh (k : Nat) (out : Bool) (s : State) : Nat :=
  if k < 4 then fld (portBlk k) 0x005 s else if k = 4 then usbCh out s else 384

/-- Sample periods that a queue holds. -/
def portCap (k : Nat) (out : Bool) (s : State) : Nat := portDepth k / portCh k out s

/-- R83: half full. -/
def portHalf (k : Nat) (out : Bool) (s : State) : Nat := portDepth k / (2 * portCh k out s)

/-- R83: the queues of port `k` begin half full of zero sample periods. -/
def recentre (k : Nat) (s : State) : State :=
  setPortQ k { portQ k s with
    inQ := List.replicate (portHalf k false s) [], outQ := List.replicate (portHalf k true s) [] } s

/-- R89: every port's queues are recentred and the input buffers discarded. -/
def recentreAll (s : State) : State :=
  (List.range 6).foldl (fun t k =>
    if bankUsed k t then setPortQ k { portQ k (recentre k t) with inBuf := [], outPos := 0 } (recentre k t) else t) s

/-- The port moves samples: RUNNING, streaming, or trained. -/
def portRuns (k : Nat) (s : State) : Bool :=
  if k < 4 then (spAt k s).state == .running
  else if k = 4 then usbStreams s && (s.usb.altOut || s.usb.altIn)
  else s.ring.state == .trained || s.ring.state == .forming
    || (s.ring.lock && (s.ring.state == .check || s.ring.state == .wait || s.ring.state == .joining))

/-! ### Slips (R84) -/

/-- R84: a slip of the input queue of port `k`. -/
def slipIn (k : Nat) (s : State) : State :=
  raise 0x407 { s with
    clk.slip := setBit s.clk.slip k true
    clk.slipIn := vset s.clk.slipIn k (satAdd 0xFFFF (vget s.clk.slipIn k 0) 1) }

/-- R84: a slip of the output queue of port `k`. -/
def slipOut (k : Nat) (s : State) : State :=
  raise 0x407 { s with
    clk.slip := setBit s.clk.slip k true
    clk.slipOut := vset s.clk.slipOut k (satAdd 0xFFFF (vget s.clk.slipOut k 0) 1) }

/-! ### Samples (R306, R311, R366) -/

/-- R306: a received sample of `b` bits, in the leading bits of its slot. -/
def rxSample (b : Nat) (w : Word) : Word := (w >>> (32 - b)) <<< (32 - b)

/-- R306: the word to send, rounded to `b` bits and saturated, no flag set. -/
def txSample (b : Nat) (w : Word) : Word := (qntR w b).1

/-- Bits of a sample at port `k`. -/
def portBits (k : Nat) (s : State) : Nat :=
  if k < 4 then (if fld (portBlk k) 0x007 s = 1 then 24 else 16)
  else if k = 4 then (if s.usb.desc.wide then 24 else 16) else 24

/-- R366: the ring clock is derived from the core and the mix rate is 48 kHz: every slot passes unconverted. -/
def ringDirect (s : State) : Bool := portDerived 5 s && fld 0x01 0x010 s == 2

/-- R366: ring slot `k` is named by a bank channel. -/
def slotMapped (k : Nat) (s : State) : Bool := (List.range 64).any fun c => fld 0x15 (0x100 + c) s == k

/-- Channel `ch` of port `k` passes samples at all (R311, R325, R366). -/
def chPasses (k ch : Nat) (out : Bool) (s : State) : Bool :=
  if k = 5 then ringDirect s || slotMapped ch s else ch < portCh k out s

/-- The endpoint of channel `ch` of port `k` (R246). -/
def portEndpoint (k ch : Nat) : Nat × Nat :=
  if k < 4 then (2, 32 * k + ch) else if k = 4 then (3, ch) else (4, ch)

/-- The port and channel of an endpoint, if it belongs to a port. -/
def endpointPort (e : Nat × Nat) : Option (Nat × Nat) :=
  match e.1 with
  | 2 => some (e.2 / 32, e.2 % 32) | 3 => some (4, e.2) | 4 => some (5, e.2) | _ => none

/-! ### Sample periods through the queues (R83, R84, R312) -/

/-- A received sample period enters the input queue of port `k`; a full queue drops it, a slip while `clk`. -/
def pushIn (k : Nat) (p : SMap Word) (clk : Bool) (s : State) : State :=
  let q := portQ k s
  if q.inQ.length < portCap k false s then setPortQ k { q with inQ := q.inQ ++ [p] } s
  else if clk then slipIn k s else s

/-- A sample period to send enters the output queue; a full queue drops its oldest, a slip while `clk`. -/
def pushOut (k : Nat) (p : SMap Word) (clk : Bool) (s : State) : State :=
  let q := portQ k s
  if q.outQ.length < portCap k true s then setPortQ k { q with outQ := q.outQ ++ [p] } s
  else
    let s := setPortQ k { q with outQ := q.outQ.drop 1 ++ [p] } s
    if clk then slipOut k s else s

/-- The port engine takes the next sample period for sending; an empty queue sends zero, a slip. -/
def popOut (k : Nat) (clk : Bool) (s : State) : State :=
  let q := portQ k s
  match q.outQ with
  | p :: r => setPortQ k { q with outQ := r, sent := p } s
  | [] =>
    let s := setPortQ k { q with sent := [] } s
    if clk then slipOut k s else s

/-- The core side takes the next sample period into the input buffer of the present frame, in bypass at most the frame's
samples. An empty queue supplies a zero sample period, a slip while `clk` (R84, R312). -/
def popIn (k : Nat) (clk : Bool) (s : State) : State :=
  let q := portQ k s
  if bankMode k s = .bypass && frameLen s ≤ q.inBuf.length then s else
  match q.inQ with
  | p :: r => setPortQ k { q with inQ := r, inBuf := q.inBuf ++ [p] } s
  | [] =>
    let s := setPortQ k { q with inBuf := q.inBuf ++ [[]] } s
    if clk then slipIn k s else s

/-- The largest number below 2^65 whose 40th power is at most `x`. -/
def root40 (x : Nat) : Nat :=
  (List.range 65).foldl (fun r k => if (r + 2 ^ (64 - k)) ^ 40 ≤ x then r + 2 ^ (64 - k) else r) 0

/-- R328: the gain of a feature unit times 2^64: 0 under mute, else its volume of half decibels as an amplitude. -/
def usbLevel (g : Bool × Int) : Nat := if g.1 then 0 else root40 (2 ^ 2560 / 10 ^ (-g.2).toNat)

/-- R328: the feature unit's gain on the sample at position `i` of `F`, from `g0` at the start of the frame linearly to `g1`
at its end, as a ramp of R295 runs (assumption log 46). The spec gives no rounding: an open value says which of the two
integers beside the product it is. -/
def usbGain (g0 g1 : Bool × Int) (i F : Nat) (w : Word) (s : State) : Word × State :=
  if g0 = g1 ∧ (g1.1 ∨ g1.2 = 0) then (if g1.1 then 0 else w, s) else
  let (x, s) := takeFree s
  let p : Int := w.toInt * (usbLevel g0 * (F - (i + 1)) + usbLevel g1 * (i + 1) : Nat)
  let d : Int := (F * 2 ^ 64 : Nat)
  (BitVec.ofInt 32 (p / d + if x.getLsbD 0 && p % d != 0 then 1 else 0), s)

/-- One channel of the next sample period to send: the stream's sample in bypass, an open value behind a converting
bank (its filter is not stated), silence while a tracking bank is unlocked (R88) and in the frame that a timing change
flushes (R89). -/
def txChannel (k : Nat) (p : SMap Word × State) (ch : Nat) : SMap Word × State :=
  let (m, s) := p
  if !chPasses k ch true s then (m, s) else
  match readsOf (portEndpoint k ch) s.strm.s with
  | none => (m, s)
  | some n =>
    if !bankLock k s || s.clk.flush then (m, s) else
    if k = 4 && s.usb.zeroFrame then (m, s) else
    let (w, s) := if bankMode k s = .bypass then (samp (portQ k s).outPos (strm n s).rbuf, s) else takeFree s
    let (w, s) := if k = 4 then usbGain s.usb.fromIn s.usb.gainIn (portQ k s).outPos (frameLen s) w s else (w, s)
    (setSamp ch (txSample (portBits k s) w) m, s)

/-- The core side puts the next sample period of the frame into the output queue. DEDUCED: a stream's sample enters the queue
two frames after its capture and the queue's residence follows, for USB and the ring as for a serial port: R18 and R326 end
the latency where the sample leaves the queue, R83, R313 and Table 15.7 add the residence (assumption log 41). -/
def putOut (k : Nat) (clk : Bool) (s : State) : State :=
  if bankMode k s = .bypass && frameLen s ≤ (portQ k s).outPos then s else
  let (m, s) := (List.range (if k = 5 then 384 else portCh k true s)).foldl (txChannel k) ([], s)
  let s := setPortQ k { portQ k s with outPos := (portQ k s).outPos + 1 } s
  pushOut k m clk s

/-- The received sample period by channel: converted from the slots (R306), from DOUT under LOOP, from the OUT packet
ring, from the ring's slots in force. -/
def rxPeriod (k : Nat) (samples : List Word) (s : State) : SMap Word :=
  if k < 4 then
    let p := if fld (portBlk k) 0x00D s = 1 then (portQ k s).sent else frameOf samples
    mapFrame (rxSample (portBits k s)) (p.filter fun e => chPasses k e.1 false s)
  else if k = 4 then s.usb.outRing.headD []
  else s.ring.rx.filter fun e => chPasses 5 e.1 false s

/-! ### The handover at a tick (R17, R84, R311, R325, R366) -/

/-- `n` open values as a frame. -/
def freeFrame (n : Nat) (s : State) : SMap Word × State :=
  ((List.range n).foldl (fun f i => setSamp i (Config.freeWord (s.free + i)) f) [],
   { s with free := s.free + n })

/-- What channel `ch` of port `k` hands over for a frame of `F` samples. -/
def rxFrame (k ch F : Nat) (s : State) : SMap Word × State :=
  let quiet := !portRuns k s || !chPasses k ch false s || !bankLock k s || (k == 4 && (!s.usb.altOut || s.usb.zeroFrame))
  if quiet then ([], s)
  else if bankMode k s = .bypass then
    let ws := ((portQ k s).inBuf.take F).map (smGet 0 ch)
    if k = 4 then
      let (vs, s) := ws.zipIdx.foldl (fun (p : List Word × State) x =>
        let (v, t) := usbGain s.usb.fromOut s.usb.gainOut x.2 F x.1 p.2
        (v :: p.1, t)) ([], s)
      (frameOf vs.reverse, s)
    else (frameOf ws, s)
  else freeFrame F s

/-- Every stream that a port's channel writes takes its frame. -/
def capturePorts (F : Nat) (s : State) : State :=
  s.strm.s.foldl (fun t p =>
    match p.2.writer.bind endpointPort with
    | some (k, ch) =>
      let (f, t) := rxFrame k ch F t
      setStrm p.1 { strm p.1 t with wbuf := f } t
    | none => t) s

/-- The port side of the handover; the input buffers start again. -/
def portHandover (F : Nat) (s : State) : State :=
  let s := capturePorts F s
  { s with clk.ports := s.clk.ports.map fun q => { q with inBuf := [], outPos := 0 } }

/-! ### ASRC lock (R87, R88) -/

/-- R88: a tracking bank loses lock. -/
def bankUnlock (k : Nat) (s : State) : State :=
  if bankUsed k s && bankMode k s == .tracking && s.clk.trackLock.getLsbD k then
    raise 0x406 { s with clk.trackLock := setBit s.clk.trackLock k false, clk.asrcLost := setBit s.clk.asrcLost k true }
  else s

/-- The banks in use that read LOCK 1. -/
def lockedBanks (s : State) : BitVec 6 :=
  (List.range 6).foldl (fun m k => setBit m k (bankUsed k s && bankLock k s)) 0

/-- R89, Table 04.7: at a tick that applies a timing change, `was` the banks that read LOCK 1 before it, each of them that is
tracking now keeps its lock, because the step is known exactly. -/
def keepLocks (was : BitVec 6) (s : State) : State :=
  (List.range 6).foldl (fun t k =>
    if was.getLsbD k && bankMode k t == .tracking then { t with clk.trackLock := setBit t.clk.trackLock k true } else t) s

/-- R87, R88: a tracking bank acquires lock: its queues are recentred. -/
def execAsrcLock (bank : Fin 6) (s : State) : Out :=
  .next (
    if live s && portRuns bank s && bankMode bank s == .tracking && !s.clk.trackLock.getLsbD bank then
      recentre bank { s with clk.trackLock := setBit s.clk.trackLock bank true }
    else s)

/-- R88: a tracking bank loses lock, feeds silence and raises ASRC_UNLOCK. -/
def execAsrcUnlock (bank : Fin 6) (s : State) : Out := .next (if live s then bankUnlock bank s else s)

/-! ### Serial port states (R308 to R315) -/

/-- SLOTS × SLOT_BITS: the bit clocks of a sample period. -/
def spBclks (n : Nat) (s : State) : Nat :=
  fld (portBlk n) 0x005 s * (match fld (portBlk n) 0x006 s with | 0 => 16 | 1 => 24 | _ => 32)

/-- The port enters RUNNING, its queues half full. -/
def spRun (n : Nat) (s : State) : State :=
  let s := setSp n { spAt n s with state := .running, errRun := 0 } s
  raise (0x444 + n) (recentre n s)

/-- The port enters LOST; a bank that lost its port clock unlocks (R88, R314). -/
def spLose (n : Nat) (noBclk : Bool) (s : State) : State :=
  let x := spAt n s
  let s := if noBclk then bankUnlock n s else s
  let s := setSp n { x with
    state := .lost, noBclk := noBclk, good := 0, edge := false, lostSeen := true, losses := satAdd 0xFFFF x.losses 1 } s
  raise (0x440 + n) (recentre n s)

/-- R310: a framing error: the incomplete period is replaced with zero and the transmit period starts again. -/
def spFrameErr (n : Nat) (s : State) : State :=
  let x := spAt n s
  let s := setSp n { x with
    frameErrSeen := true, frameErrs := satAdd 0xFFFF x.frameErrs 1, errRun := min 4 (x.errRun + 1) } s
  raise (0x448 + n) (popOut n false (pushIn n [] false s))

/-- R308 to R310: the FS edge that starts slot 0, after `bclks` bit clocks since the last; `inRate` says that the FS
period lies within 2 % of 1 / RATE. -/
def execSpFsEdge (port : Fin 4) (bclks : BitVec 11) (inRate : Bool) (s : State) : Out :=
  .next (
    let n := port.val
    let x := spAt n s
    if !live s || fld (portBlk n) 0x003 s == 1 then s else
    let ok := bclks.toNat == spBclks n s
    match x.state with
    | .off => s
    | .lost =>
      if bclks == 0 then s
      else setSp n { x with state := .seeking, noBclk := false, good := 0, edge := true, errRun := 0 } s
    | .seeking =>
      if !x.edge then setSp n { x with edge := true } s else
      let good := if ok && inRate then x.good + 1 else 0
      let s := setSp n { x with bclkPerFs := bclks.toNat, rateErr := !inRate, good := good } s
      if 8 ≤ good then spRun n s else s
    | .running =>
      let s := setSp n { x with
        bclkPerFs := bclks.toNat, rateErr := !inRate, errRun := if ok then 0 else x.errRun } s
      if ok then s else
      let s := spFrameErr n s
      if 4 ≤ (spAt n s).errRun then spLose n false s else s)

/-- R308, R314: a seeking or running slave port misses BCLK (`noBclk`) or FS and enters LOST. -/
def execSpLost (port : Fin 4) (noBclk : Bool) (s : State) : Out :=
  .next (
    if live s && ((spAt port s).state == .seeking || (spAt port s).state == .running) && fld (portBlk port) 0x003 s == 0 then spLose port noBclk s else s)

/-- R307, R308: SPn.EN = 1 takes effect. -/
def spStart (n : Nat) (s : State) : State :=
  let s := { s with clk.trackLock := setBit s.clk.trackLock n false }
  let s := setSp n { spAt n s with
    good := 0, edge := false, errRun := 0, noBclk := false, finishing := false, state := .seeking } s
  if fld (portBlk n) 0x003 s = 1 then spRun n s else recentre n s

/-- R315: the port stops and its queues are emptied; a master first finishes the sample period in progress. -/
def spStop (n : Nat) (s : State) : State :=
  let master := fld (portBlk n) 0x003 s == 1
  setPortQ n { sent := if master then (portQ n s).sent else [] }
    (setSp n { spAt n s with
      state := .off, good := 0, edge := false, errRun := 0, noBclk := false, finishing := master } s)

/-- R315: the sample period that a stopped master finished is over: BCLK and FS are low. -/
def spFinish (n : Nat) (s : State) : State :=
  if (spAt n s).finishing then setPortQ n {} (setSp n { spAt n s with finishing := false } s) else s

/-- The effect of SPn.EN at its tick. -/
def spEnable (n v : Nat) (s : State) : State :=
  if v = 1 then (if (spAt n s).state == .off then spStart n s else s)
  else if (spAt n s).state == .off then s else spStop n s

/-- R112: BRESET of SPn. -/
def spBreset (n : Nat) (s : State) : State := setPortQ n {} (setSp n {} (resetFields (portBlk n) s))

/-! ### One sample period (R83, R84) -/

/-- R83, R84: a sample period of `port` passes one side of one of its queues. `samples` are the slots' contents for a
serial port's receive side; `clk` says that the port's clock is running (R312). -/
def execPortSamplePeriod (port : Fin 6) (side : PortSide) (samples : List Word) (clk : Bool) (s : State) : Out :=
  .next (
    let k := port.val
    let s := if k < 4 && live s then spFinish k s else s
    if !live s || !portRuns k s then s else
    match side with
    | .rxPort =>
      if k = 4 then
        if s.usb.outRing.isEmpty then pushIn 4 [] false (slipIn 4 s)
        else pushIn 4 (rxPeriod 4 samples s) clk { s with usb.outRing := s.usb.outRing.drop 1 }
      else pushIn k (rxPeriod k samples s) clk s
    | .rxCore => popIn k clk s
    | .txCore => putOut k clk s
    | .txPort =>
      let s := popOut k clk s
      if k = 4 then { s with usb.inPack := s.usb.inPack ++ [(portQ 4 s).sent] } else s)

/-! ### Balls (R317, Table 15.3) -/

/-- What SPn_DOUT does; `held`: not shifted, since BCLK is absent. -/
inductive SpDout where
  | hiZ
  | low
  | data
  | held
  deriving DecidableEq, Repr

/-- R311, R315, R317, Tables 15.2 and 15.3: SPn_DOUT of an assigned port during slot `slot`. -/
def spDout (n slot : Nat) (s : State) : SpDout :=
  let x := spAt n s
  let idle : SpDout := if fld (portBlk n) 0x00C s == 1 then .hiZ else .low
  if x.state == .running || x.finishing then
    if (readsOf (2, 32 * n + slot) s.strm.s).isSome then .data else idle
  else if x.state == .lost && x.noBclk then .held
  else idle

/-- What SPn_BCLK and SPn_FS do. -/
inductive SpClock where
  | input
  | low
  | clocking
  deriving DecidableEq, Repr

/-- R315, Table 15.3: SPn_BCLK and SPn_FS of an assigned port. -/
def spDrivesClock (n : Nat) (s : State) : SpClock :=
  if fld (portBlk n) 0x003 s != 1 then .input
  else if (spAt n s).state == .running || (spAt n s).finishing then .clocking
  else .low

/-! ### The serial format (R305, R306, Table 15.1) -/

/-- SPn.SLOT_BITS in bits. -/
def spSlotBits (n : Nat) (s : State) : Nat := match fld (portBlk n) 0x006 s with | 0 => 16 | 1 => 24 | _ => 32

/-- Table 15.1: bit clocks from the FS edge that starts slot 0 to the first data bit of slot 0. -/
def spOffset (n : Nat) (s : State) : Nat :=
  match fld (portBlk n) 0x002 s with | 0 => 1 | 1 => 0 | _ => fld (portBlk n) 0x009 s

/-- Table 15.1: the level of SPn_FS in bit clock `t` of a sample period, counted from the FS edge that starts slot 0. -/
def spFsLevel (n t : Nat) (s : State) : Bool :=
  let level : Bool := match fld (portBlk n) 0x002 s with
    | 0 => spSlotBits n s ≤ t
    | 1 => t < spSlotBits n s
    | _ => t < if fld (portBlk n) 0x008 s = 1 then spSlotBits n s else 1
  level != (fld (portBlk n) 0x00B s == 1)

/-- R305: SPn samples on the rising edge of BCLK and launches on the falling one; BCLK_INV = 1 does the reverse. -/
def spSamplesRising (n : Nat) (s : State) : Bool := fld (portBlk n) 0x00A s == 0

/-- Table 15.1: the slot and the bit of it, most significant first, that the data lines carry in bit clock `t`. -/
def spSlotBit (n t : Nat) (s : State) : Nat × Nat :=
  let total := spBclks n s
  let x := (t + total - spOffset n s) % total
  (x / spSlotBits n s, x % spSlotBits n s)

/-- R306: the bit of the sample period `p` that SPn_DOUT carries in bit clock `t`. -/
def spDataBit (n t : Nat) (p : SMap Word) (s : State) : Bool :=
  let x := spSlotBit n t s
  (smGet 0 x.1 p).getLsbD (31 - x.2)

/-- Table 15.1: the slots that the bits of a sample period carry, the first data bit of slot 0 first. PORT_SAMPLE_PERIOD
names its slots so. -/
def spCut (n : Nat) (din : List Bool) (s : State) : List Word :=
  (List.range (fld (portBlk n) 0x005 s)).map fun k =>
    (List.range (spSlotBits n s)).foldl
      (fun (w : Word) b => setBit w (31 - b) (din.getD (k * spSlotBits n s + b) false)) 0

/-! ### Checks (R307, R316) -/

/-- R307: N of a master port is an even integer of 12 or more. -/
def masterOk (hz slots bits : Nat) : Bool :=
  let d := hz * slots * bits
  d != 0 && 294912000 % d == 0 && (294912000 / d) % 2 == 0 && 12 ≤ 294912000 / d

/-- R316: the sub-reason with which CFG SPn.EN = 1 fails with STATE, judged on pending values. -/
def spEnCheck (n : Nat) (s : State) : Option Nat :=
  let p (f : Nat) := pend (portBlk n) f s
  let bits := match p 0x006 with | 0 => 16 | 1 => 24 | _ => 32
  let hz := spHz (p 0x004)
  let mix := mixHz (pend 0x01 0x010 s)
  let sync := pend 0x01 (0x020 + n) s == 1
  if p 0x002 != 2 && p 0x005 != 2 then some 1
  else if p 0x007 == 1 && p 0x006 == 0 then some 2
  else if 24576000 < hz * p 0x005 * bits then some 3
  else if p 0x003 == 1 && !masterOk hz (p 0x005) bits then some 4
  else if !rateOk hz mix then some 5
  else if sync && hz != mix then some 6
  else if p 0x003 == 1 && sync then some 7
  else if p 0x00D == 1 && p 0x003 == 0 then some 8
  else none

/-! ### Registers (R318) -/

/-- SPn.STATUS. -/
def spStatus (n : Nat) (s : State) : Word :=
  let x := spAt n s
  BitVec.ofNat 32 (x.bclkPerFs * 0x10000 + b2n x.rateErr * 0x200 + b2n x.lostSeen * 0x100 + b2n x.frameErrSeen * 0x80
    + (match x.state with | .off => 0 | .seeking => 1 | .running => 2 | .lost => 3))

/-- A W1C write of SPn.STATUS. -/
def spStatusW1c (n : Nat) (w : Word) (s : State) : State :=
  let x := spAt n s
  setSp n { x with
    lostSeen := x.lostSeen && !w.getLsbD 8, frameErrSeen := x.frameErrSeen && !w.getLsbD 7 } s

end Sys2Proof.Machine
end

