-- ==== Sys2Proof/Machine/Usb.lean ====
section
/-! DEFINITION. 16_usb_device: attach, descriptors, audio requests and packets, HID, suspend, LPM and remote wake, bus
reset and detach. The vendor READ and WRITE are in Aperture.lean, the download's manifestation in Boot.lean. -/

namespace Sys2Proof.Machine

/-! ### Attach and detach (R322, R333, R339) -/

/-- USB is to attach: USB.EN = 1 in force, or the boot ROM waits for a download (R332). -/
def usbWanted (s : State) : Bool := fld 0x14 0x001 s == 1 || (live s && s.rst.stage == .waitDfu)

/-- R322 item 1: the charge pump starts once USB is wanted and VBUS valid; it serves in RUN. -/
def usbPumpStart (s : State) : State :=
  if usbWanted s && s.sup.vbus && s.sup.modeCur == .run then { s with sup.usbPump := true } else s

/-- R333, R339: the response of a USB block taken in is discarded; with `reject` the block is rejected at commit. -/
def usbDropBlocks (reject : Bool) (s : State) : State :=
  { s with
    cmd.usbBlk := none
    cmd.usbMbx := {}
    cmd.jobs := s.cmd.jobs.map fun j =>
      if j.src == .usb then { j with mute := true, dead := j.dead || (reject && j.copies.isEmpty) } else j }

/-- R331, R333, R339: DFU mode ends. -/
def dfuEnd (s : State) : State :=
  if s.usb.dfuMode == .off then s
  else raise 0x4E7 { s with usb.dfuMode := .off, usb.dfu := .appIdle, usb.dfuStatus := 0 }

/-- R333: what a bus reset and a detach both undo in the device. -/
def usbDefault (s : State) : State :=
  { s with
    usb.speed := false, usb.rwakeOn := false, usb.address := 0, usb.altOut := false, usb.altIn := false
    usb.altOutNext := false, usb.altInNext := false, usb.driving := false, usb.hostK := false
    usb.outRing := [], usb.inPack := [], usb.inReady := [] }

/-- R322, R339 items 1 to 4 without the pump: the device leaves the bus. -/
def usbDetach (s : State) : State :=
  if s.usb.state == .detached then s else
  let s := usbDropBlocks true (dropClaims .usb 0 (dfuEnd (usbDefault s)))
  { s with usb.state := .detached }

/-- R339 items 1 to 4: the pull-up off and the charge pump stopped. -/
def usbUnplug (s : State) : State := { usbDetach s with sup.usbPump := false, sup.vusbOk := false }

/-- R322: USB_VBUS has been above 4.10 V for 100 µs. -/
def execVbusValid (s : State) : Out :=
  .next (if live s then usbPumpStart { s with sup.vbus := true } else s)

/-- R322, R339: USB_VBUS has been below 3.60 V for 100 µs. -/
def execVbusLost (s : State) : Out :=
  .next (if s.sup.vbus then raise 0x4E5 (usbUnplug { s with sup.vbus := false }) else s)

/-- R322 item 3: with VUSB in regulation the D+ pull-up turns on; for the boot ROM, with the DFU function only. -/
def execUsbAttach (s : State) : Out :=
  .next (
    if !(live s && usbWanted s && s.sup.vbus && s.sup.usbPump && s.sup.vusbOk && s.usb.state == .detached
        && s.sup.modeCur == .run) then s
    else if s.rst.stage == .waitDfu then
      raise 0x4E7 { s with usb.state := .dfu, usb.dfuMode := .bootRom, usb.dfu := .dfuIdle, usb.speed := false }
    else { s with usb.state := .attached, usb.speed := false })

/-- R322: USB.EN takes effect at its tick. -/
def usbEnable (v : Nat) (s : State) : State := if v = 1 then usbPumpStart s else usbUnplug s

/-- R340: a tick that enters LISTEN or STANDBY detaches a device that is not suspended. -/
def usbModeEntry (s : State) : State := if s.usb.state == .suspended then s else usbUnplug s

/-- R112, Table 16.1: BRESET of USB; a test mode is left by a reset of the CM9440 only. -/
def usbBreset (s : State) : State :=
  { usbUnplug (setPortQ 4 {} (resetFields 0x14 s)) with usb := { testMode := s.usb.testMode } }

/-! ### Descriptors (R323, R324) -/

/-- R324: the rates reported: those of USB.RATES that meet R87 against the mix rate in force. -/
def reportedRates (mask mix : Nat) : Nat :=
  (List.range 6).foldl (fun m k => if mask.testBit k && rateOk (usbHz k) mix then m + 2 ^ k else m) 0

/-- The lowest bit set in a mask of six rates, 0 for none. -/
def lowRate (mask : Nat) : Nat := ((List.range 6).find? fun k => mask.testBit k).getD 0

/-- R324: the length byte of the string descriptor at `a`. -/
def strLen (a : Nat) (s : State) : Nat := (byteAt a s).toNat

/-- R324, R341: the string descriptor at `a` is well formed and lies within the steward bank. -/
def strOk (a : Nat) (s : State) : Bool :=
  byteAt (a + 1) s == 0x03 && 2 ≤ strLen a s && strLen a s ≤ 126 && a + strLen a s ≤ 0x880000

/-- R323: the steward builds the descriptor set when USB.EN = 1 is committed. -/
def buildDesc (s : State) : State :=
  let f (k : Nat) := fld 0x14 k s
  let a := f 0x011
  let d : UsbDesc := {
    vid := f 0x003, pid := f 0x004, bcd := f 0x005, outCh := f 0x006, inCh := f 0x007, wide := f 0x008 == 1
    rates := reportedRates (f 0x009) (mixHz (fld 0x01 0x010 s)), hid := f 0x00A == 1, dfu := f 0x00B == 1
    rwake := f 0x00D == 1, lpm := f 0x00E == 1, maxPower := f 0x00F, selfPowered := f 0x010 == 1, hs := f 0x002 == 1
    strings := if a = 0 then [] else
      [bytesAt a (strLen a s) s, bytesAt (a + strLen a s) (strLen (a + strLen a s) s) s] }
  { s with usb.desc := d, usb.rate := lowRate d.rates, usb.rateNext := lowRate d.rates }

/-- R323, Table 16.2: the interfaces present, in the order of their numbers. -/
def interfaces (d : UsbDesc) : List UsbInterface :=
  (if 0 < d.outCh || 0 < d.inCh then [.audioControl] else []) ++ (if 0 < d.outCh then [.audioOut] else [])
  ++ (if 0 < d.inCh then [.audioIn] else []) ++ (if d.hid then [.hid] else []) ++ [.vendor]
  ++ (if d.dfu then [.dfuRunTime] else [])

/-- R324: the maximum packet size of a direction with `ch` channels. -/
def maxPacket (d : UsbDesc) (ch : Nat) (hs : Bool) : Nat :=
  let p := if hs then 8000 else 1000
  ch * (if d.wide then 3 else 2) * ((topRate d + p - 1) / p + 1)

/-- The rates of a mask of six, in hertz. -/
def rateList (mask : Nat) : List Nat := ((List.range 6).filter fun k => mask.testBit k).map usbHz

/-- R323, R324: the format and data endpoint of a direction with `ch` channels, and the feedback endpoint of OUT. -/
def streamItems (inDir : Bool) (ch : Nat) (d : UsbDesc) (hs : Bool) : List UsbItem :=
  [.format ch (if d.wide then 3 else 2) (if d.wide then 24 else 16)]
  ++ if inDir then [.endpoint 0x82 .isoIn (maxPacket d ch hs) 1]
     else [.endpoint 0x01 .isoOut (maxPacket d ch hs) 1, .endpoint 0x81 .feedback (if hs then 4 else 3) (if hs then 4 else 1)]

/-- R323, R324: what the descriptors of interface number `n` state. -/
def interfaceItems (d : UsbDesc) (hs : Bool) (outCh inCh : Nat) (k : UsbInterface) (n : Nat) : List UsbItem :=
  match k with
  | .audioControl =>
    [.altSetting n 0 k [], .clockSource 0x10, .rates (rateList d.rates)]
    ++ (if 0 < d.outCh then [.inputTerminal 1 none, .featureUnit 2, .outputTerminal 3 (some 0x0403)] else [])
    ++ (if 0 < d.inCh then [.inputTerminal 4 (some 0x0403), .featureUnit 5, .outputTerminal 6 none] else [])
  | .audioOut => .altSetting n 0 k [] :: .altSetting n 1 k [] :: streamItems false outCh d hs
  | .audioIn => .altSetting n 0 k [] :: .altSetting n 1 k [] :: streamItems true inCh d hs
  | .hid => [.altSetting n 0 k [], .endpoint 0x83 .interruptIn 8 (if hs then 4 else 1)]
  | .vendor => [.altSetting n 0 k [0xFF]]
  | .dfuRunTime => [.altSetting n 0 k [0xFE, 0x01, 0x01]]
  | .dfuMode => [.altSetting n 0 k [0xFE, 0x01, 0x02]]

/-- R323, R324: the one association, of the audio interfaces, which are numbered first. -/
def audioGroup (d : UsbDesc) : List UsbItem :=
  match b2n (0 < d.outCh) + b2n (0 < d.inCh) with | 0 => [] | n => [.association 0 (n + 1)]

/-- R323, R324: what the configuration descriptor states. -/
def configItems (d : UsbDesc) (hs : Bool) (outCh inCh : Nat) : List UsbItem :=
  let is := interfaces d
  .configuration is.length d.maxPower d.selfPowered d.rwake :: audioGroup d
    ++ is.zipIdx.flatMap fun p => interfaceItems d hs outCh inCh p.1 p.2

/-- R331, R332: what the configuration descriptor of DFU mode states; `tolerant`: bitManifestationTolerant. -/
def dfuItems (d : UsbDesc) (tolerant : Bool) : List UsbItem :=
  [.configuration 1 d.maxPower d.selfPowered d.rwake, .altSetting 0 0 .dfuMode [0xFE, 0x01, 0x02],
    .dfuFunction tolerant true false 1024]

/-- The descriptor set in force: in WAIT_DFU the boot ROM's (R332), else the one built. -/
def descNow (s : State) : UsbDesc :=
  match s.usb.dfuMode with
  | .bootRom => { vid := 0x3D19, pid := 0x9440 }
  | _ => s.usb.desc

/-- A hexadecimal digit in upper case as UTF-16. -/
def hexDigit (k : Nat) : List Byte := [BitVec.ofNat 8 (if k < 10 then 0x30 + k else 0x37 + k), 0]

/-- A string descriptor of the characters of a text. -/
def strDesc (t : String) : List Byte :=
  BitVec.ofNat 8 (2 + 2 * t.length) :: 0x03 :: t.toList.flatMap fun c => [BitVec.ofNat 8 c.toNat, 0]

/-- R324: string 3, DBG_UID as 16 hexadecimal digits. -/
def serialDesc : List Byte :=
  0x22 :: 0x03 :: (List.range 16).flatMap fun k => hexDigit (Config.deviceUid.toNat / 16 ^ (15 - k) % 16)

/-- R324: string descriptor `n`, if there is one. -/
def stringDesc (n : Nat) (d : UsbDesc) : Option (List Byte) :=
  match n with
  | 1 => some (d.strings.getD 0 (strDesc "Vastalek"))
  | 2 => some (d.strings.getD 1 (strDesc "Cholum CM9440"))
  | 3 => some serialDesc
  | _ => none

/-- The device answers requests: on the bus, reset, and not in a test mode. -/
def usbAnswers (s : State) : Bool :=
  live s && s.usb.testMode.isNone
    && (s.usb.state == .default || s.usb.state == .addressed || s.usb.state == .configured || s.usb.state == .dfu)

/-- The device is configured and answers class and vendor requests. -/
def usbConfigured (s : State) : Bool := usbAnswers s && s.usb.state == .configured

/-- The request is answered with STALL. -/
def stall (s : State) : State := { s with usb.stalled := true }

/-- The request is accepted; an IN request returns `r`. -/
def answer (r : List Byte) (s : State) : State := { s with usb.stalled := false, usb.reply := r }

/-- R323, R331, R332: a descriptor is served from the set in force; what it states stands in usb.items, the strings of R324
byte for byte in usb.reply (assumption log 32). DEDUCED: the set of DFU mode has no BOS descriptor
(assumption log 46). -/
def execGetDescriptor (k : DescKind) (s : State) : Out :=
  .next (
    if !usbAnswers s then s else
    let d := descNow s
    let serve (b : List Byte) (l : List UsbItem) : State := answer b { s with usb.served := some d, usb.items := l }
    match k with
    | .string 0 => serve [] []
    | .string n =>
      match stringDesc n d with
      | some b => serve b []
      | none => stall s
    | .bos => if d.lpm && s.usb.dfuMode == .off then serve [] [.lpm 0] else stall s
    | .device => serve [] [.device d.vid d.pid d.bcd]
    | .configuration =>
      serve [] (
        if s.usb.dfuMode == .off then configItems d s.usb.speed (usbCh false s) (usbCh true s)
        else dfuItems d (s.usb.dfuMode == .runTime)))

/-- R342: SET_ADDRESS. -/
def execSetAddress (a : Fin 128) (s : State) : Out :=
  .next (
    if !usbAnswers s then s else
    let s := answer [] { s with usb.address := a.val }
    match s.usb.state with
    | .default => if a.val = 0 then s else { s with usb.state := .addressed }
    | .addressed => if a.val = 0 then { s with usb.state := .default } else s
    | _ => s)

/-- R338: report 2 is due while reasons are recorded. -/
def reportDue (s : State) : State :=
  if s.usb.reason != 0 || s.usb.software then { s with usb.report2 := true } else s

/-- R343: SET_CONFIGURATION; the device has one configuration, number 1. -/
def execSetConfiguration (n : Byte) (s : State) : Out :=
  .next (
    if !(usbAnswers s && (s.usb.state == .addressed || s.usb.state == .configured)) then s else
    if n == 1 then
      raise 0x4E4 (reportDue (answer [] { s with
        usb.state := .configured, usb.altOutNext := false, usb.altInNext := false }))
    else if n == 0 then
      raise 0x4E4 (answer [] { s with
        usb.state := .addressed, usb.altOutNext := false, usb.altInNext := false })
    else stall s)

/-- R336: DEVICE_REMOTE_WAKEUP is set or cleared; a device without the attribute stalls. -/
def execDeviceRemoteWakeupFeature (on : Bool) (s : State) : Out :=
  .next (
    if !usbAnswers s then s
    else if s.usb.desc.rwake then answer [] { s with usb.rwakeOn := on } else stall s)

/-- Table 16.1: a test mode is entered, and left only by a reset. Modes 1 to 4: Test_J, Test_K, SE0_NAK, Test_Packet. -/
def execSetFeatureTestMode (m : Fin 8) (s : State) : Out :=
  .next (
    if !usbAnswers s then s
    else if 1 ≤ m.val && m.val ≤ 4 then answer [] { s with usb.testMode := some m.val } else stall s)

/-! ### Audio requests (R328) -/

/-- R328: an alternate setting is set, effective at the next tick. -/
def execSetInterface (inDir : Bool) (alt : Byte) (s : State) : Out :=
  .next (
    if !usbConfigured s then s else
    if alt.toNat ≤ 1 && (interfaces s.usb.desc).contains (if inDir then .audioIn else .audioOut) then
      raise 0x4E4 (answer [] (
        if inDir then { s with usb.altInNext := alt == 1 } else { s with usb.altOutNext := alt == 1 }))
    else stall s)

/-- R328: the sampling rate is set, effective at the next tick; a rate not reported or breaking R87 is stalled. -/
def execSetCurSamFreq (hz : Word) (s : State) : Out :=
  .next (
    if !usbConfigured s then s else
    match (List.range 6).find? fun k => usbHz k == hz.toNat && s.usb.desc.rates.testBit k with
    | some k =>
      if rateOk hz.toNat (mixHz (fld 0x01 0x010 s)) then raise 0x4E4 (answer [] { s with usb.rateNext := k }) else stall s
    | none => stall s)

/-- R328: mute and volume in half decibels; a volume outside its range is clamped. -/
def execSetCurMuteVolume (inDir : Bool) (mute : Option Bool) (vol : Option Int) (s : State) : Out :=
  .next (
    if !usbConfigured s then s else
    let clamp (v : Int) : Int := max (-128) (min 0 v)
    if (interfaces s.usb.desc).contains (if inDir then .audioIn else .audioOut) then
      raise 0x4E4 (answer [] (
        if inDir then { s with usb.muteIn := mute.getD s.usb.muteIn, usb.volIn := (vol.map clamp).getD s.usb.volIn }
        else { s with usb.muteOut := mute.getD s.usb.muteOut, usb.volOut := (vol.map clamp).getD s.usb.volOut }))
    else stall s)

/-- R328: at a tick a change of rate or alternate setting takes effect, before the frame is handed over; the bank is
recentred and both directions carry one frame of zero. -/
def usbTickPre (s : State) : State :=
  let u := s.usb
  if u.altOutNext == u.altOut && u.altInNext == u.altIn && u.rateNext == u.rate then
    { s with usb.zeroFrame := false }
  else
    let s := { s with
      usb.altOut := u.altOutNext, usb.altIn := u.altInNext, usb.rate := u.rateNext, usb.zeroFrame := true }
    setPortQ 4 { portQ 4 (recentre 4 s) with inBuf := [] } (recentre 4 s)

/-- R328: at a tick, after the handover, mute and volume ramp to their new values across the frame that opens. -/
def usbTickPost (s : State) : State :=
  let u := s.usb
  { s with
    usb.fromOut := u.gainOut, usb.fromIn := u.gainIn
    usb.rampOut := u.gainOut != (u.muteOut, u.volOut), usb.gainOut := (u.muteOut, u.volOut)
    usb.rampIn := u.gainIn != (u.muteIn, u.volIn), usb.gainIn := (u.muteIn, u.volIn) }

/-! ### Packets and feedback (R326, R327) -/

/-- Sample periods that the OUT packet ring of 2,048 words holds (R286). -/
def ringCap (s : State) : Nat := 2048 / usbCh false s

/-- R326, R342: an isochronous OUT packet: its sample periods enter the OUT packet ring; one that overflows is a slip
of port index 4 (R327). -/
def execUsbIsoOutPacket (r : IsoResult) (periods : List (List Word)) (s : State) : Out :=
  .next (
    if !(usbConfigured s && s.usb.altOut) then s else
    match r with
    | .good => periods.foldl (fun t p =>
        if t.usb.outRing.length < ringCap t then
          { t with usb.outRing := t.usb.outRing
              ++ [frameOf ((p.take (usbCh false t)).map (rxSample (portBits 4 t)))] }
        else slipIn 4 t) s
    | .crcError => { s with usb.crcErrs := satAdd 0xFFFF s.usb.crcErrs 1 }
    | .missed => { s with usb.isoMissed := satAdd 0xFFFF s.usb.isoMissed 1 })

/-- R326, R327: an isochronous IN token takes the audio packet, which carries what left the IN queue in the (micro)frame before,
or the feedback value. -/
def execUsbIsoInPacket (fb : Bool) (s : State) : Out :=
  .next (
    if !usbConfigured s then s else
    if fb then (if s.usb.altOut then { s with usb.feedback := s.usb.fbNext } else s)
    else if s.usb.altIn then { s with usb.inSent := s.usb.inReady, usb.inReady := [] } else s)

/-- Core cycles of a (micro)frame. -/
def sofNominal (s : State) : Nat := if s.usb.speed then 36864 else 294912

/-- R327: a start of frame, `cycles` core cycles after the one before; what has left the IN queue goes out in the (micro)frame
that begins (R326). -/
def execUsbSof (cycles : Nat) (s : State) : Out :=
  .next (
    if !live s || s.usb.state == .detached || s.usb.state == .suspended || s.usb.state == .l1 then s else
    let s := { s with
      usb.sof := (cycles :: s.usb.sof).take (if s.usb.speed then 512 else 64)
      usb.inReady := s.usb.inPack, usb.inPack := [] }
    if s.rst.ckmode == 2 then { s with clk.refBad := 0 } else s)

/-- R327: the sample periods by which the OUT packet ring exceeds its target, the 250 µs or 2 ms of Table 16.3. -/
def ringExcess (s : State) : Int :=
  (s.usb.outRing.length : Int) - (usbHz s.usb.rate * 2 / (if s.usb.speed then 8000 else 1000) : Nat)

/-- R327: the feedback value: R_usb times the mean SOF interval, corrected, rounded to the format's LSB. -/
def feedbackValue (s : State) : Nat :=
  let n := if s.usb.sof.isEmpty then 1 else s.usb.sof.length
  let sum := if s.usb.sof.isEmpty then sofNominal s else s.usb.sof.sum
  let frac := if s.usb.speed then 16 else 14
  let den := n * 294912000
  let corr := max (-(2 ^ (frac - 4))) (min (2 ^ (frac - 4)) (-(ringExcess s) * 2 ^ (frac - 8)))
  let x : Int := (usbHz s.usb.rate * sum * 2 ^ frac : Nat)
  ((2 * x + den) / (2 * den) + corr).toNat

/-- R327: the feedback value is recomputed every 1 ms while the OUT alternate setting is 1. -/
def execUsbFeedbackUpdate (s : State) : Out :=
  .next (
    if usbConfigured s && s.usb.altOut then { s with usb.fbNext := BitVec.ofNat 32 (feedbackValue s) } else s)

/-! ### HID (R329, R338) -/

/-- R329: output report 1. -/
def execSetReport (b : Byte) (s : State) : Out :=
  .next (
    if !usbConfigured s then s
    else if s.usb.desc.hid then raise 0x4E6 (answer [] { s with usb.hidLed := b }) else stall s)

/-- The bits of USB.WAKE_STATUS (R342): MERGED, SOFTWARE, REASON. -/
def wakeBits (s : State) : BitVec 9 := BitVec.ofNat 9 (b2n s.usb.merged * 256 + b2n s.usb.software * 128 + s.usb.reason.toNat)

/-- R338: bits of USB.WAKE_STATUS clear. -/
def wakeClear (m : BitVec 9) (s : State) : State :=
  { s with
    usb.merged := s.usb.merged && !m.getLsbD 8, usb.software := s.usb.software && !m.getLsbD 7
    usb.reason := s.usb.reason &&& ~~~(m.setWidth 7) }

/-- R338: the host acknowledges the report 2 that carries `c`: what it carries clears, but for what was recorded again since it
was formed. DEDUCED: what remains is reported in the next interval (assumption log 46). -/
def reportAcked (c : BitVec 9) (s : State) : State :=
  reportDue (wakeClear (c &&& ~~~s.usb.sinceFormed) { s with
    usb.report2 := false, usb.formed := none, usb.sinceFormed := 0 })

/-- R338: reasons are recorded while a formed report waits for its acknowledgement. -/
def noteSince (m : BitVec 9) (s : State) : State := { s with usb.sinceFormed := s.usb.sinceFormed ||| m }

/-- R329: USB.HID_IN changes: report 1 goes out in the next interval. -/
def hidIn (was v : Nat) (s : State) : State := if v = was then s else { s with usb.report1 := true }

/-- R329, R338: an input report in its interval, report 2 before report 1; `ack`: the host acknowledges it. -/
def execHidReport (ack : Bool) (s : State) : Out :=
  .next (
    if !(usbConfigured s && s.usb.desc.hid) then s else
    if s.usb.report2 then
      let c := s.usb.formed.getD (wakeBits s)
      let s := { s with
        usb.sinceFormed := if s.usb.formed.isNone then 0 else s.usb.sinceFormed, usb.formed := some c
        usb.lastReport := [2, c.setWidth 8, (c >>> 8).setWidth 8] }
      if ack then reportAcked c s else s
    else if s.usb.report1 then
      let s := { s with usb.lastReport := [1, BitVec.ofNat 8 (fld 0x14 0x012 s)] }
      if ack then { s with usb.report1 := false } else s
    else s)

/-! ### The vendor interface (R330) -/

/-- The little-endian word that four bytes spell; missing bytes are zero. -/
def leWord (b : List Byte) (k : Nat) : Word :=
  b.getD (4 * k + 3) 0 ++ b.getD (4 * k + 2) 0 ++ b.getD (4 * k + 1) 0 ++ b.getD (4 * k) 0

/-- R330: SUBMIT. -/
def execUsbSubmit (data : List Byte) (s : State) : Out :=
  .next (
    if !usbConfigured s then s else
    if s.cmd.usbMbx.busy || s.cmd.usbBlk.isSome || s.lcy.quiet.isSome || data.length < 8 || 64 < data.length then stall s else
    answer [] { s with
      cmd.usbBlk := some ((List.range 16).map (leWord data))
      cmd.usbMbx := { busy := true } })

/-- R330: RESPONSE. -/
def execUsbResponse (s : State) : Out :=
  .next (if usbConfigured s then answer (leBytes (mbxWord s.cmd.usbMbx)) s else s)

/-- R330: SET_ADDR. -/
def execUsbSetAddr (a : Word) (s : State) : Out :=
  .next (if !usbConfigured s then s else if a.toNat % 4 = 0 then answer [] { s with usb.acc := a } else stall s)

/-- R330: DIGEST. -/
def execUsbDigest (s : State) : Out :=
  .next (
    if usbConfigured s then
      let d := evtDigest s
      answer (leBytes (d.setWidth 32) ++ leBytes ((d >>> 32).setWidth 32)) s
    else s)

/-! ### Suspend, LPM and remote wake (R333 to R338) -/

/-- R333: a bus reset; `hs`: the high-speed handshake completes. -/
def execUsbBusReset (hs : Bool) (s : State) : Out :=
  .next (
    if !live s || s.usb.state == .detached || s.usb.testMode.isSome then s else
    let boot := s.usb.dfuMode == .bootRom
    let s := if boot then raiseIf (s.usb.dfu != .dfuIdle) 0x4E7 { s with usb.dfu := .dfuIdle, usb.dfuLen := 0 } else dfuEnd s
    let s := usbDropBlocks false (dropClaims .usb 0 (usbDefault { s with usb.formed := none, usb.sinceFormed := 0 }))
    raise 0x4E2 { s with
      usb.state := if boot then .dfu else .default
      usb.speed := hs && s.usb.desc.hs })

/-- R334: 3 ms of bus idle. With CKMODE 0b10 the reference counts as lost (R75). -/
def execUsbSuspend (s : State) : Out :=
  .next (
    if !live s || s.usb.testMode.isSome then s else
    match s.usb.state with
    | .detached => s
    | .suspended => s
    | .l1 => s
    | st =>
      let s := raise 0x4E0 { s with
        usb.state := .suspended, usb.before := st, usb.driving := false, usb.hostK := false }
      if s.rst.ckmode == 2 then refLost s else s)

/-- R334, R335, R337, R338: a resume ends at its EOP. -/
def execUsbResume (s : State) : Out :=
  .next (
    if !live s || !(s.usb.state == .suspended || s.usb.state == .l1) then s else
    let any := s.usb.reason != 0 || s.usb.software
    let s := raise 0x4E1 { s with
      usb.state := s.usb.before, usb.driving := false, usb.hostK := false }
    raiseIf any 0x4E3 (reportDue s))

/-- R335: an LPM L1 request: acknowledged, or NYET while an alternate setting is 1. -/
def execUsbLpmL1 (remoteWake : Bool) (s : State) : Out :=
  .next (
    if !usbAnswers s || !s.usb.desc.lpm || s.usb.state == .dfu then s else
    if s.usb.altOut || s.usb.altIn then { s with usb.nyet := true } else
    raise 0x4E8 { s with
      usb.nyet := false, usb.before := s.usb.state, usb.state := .l1, usb.l1Wake := remoteWake
      usb.driving := false, usb.hostK := false })

/-- R336: the reasons of a wake source that fires while the bus is suspended or in L1, as far as USB.RWAKE_SRC
enables them. -/
def usbWakeReason (bit : BitVec 7) (s : State) : State :=
  if s.usb.state == .suspended || s.usb.state == .l1 then
    let b := bit &&& BitVec.ofNat 7 (fld 0x14 0x013 s)
    noteSince (b.setWidth 9) { s with usb.reason := s.usb.reason ||| b }
  else s

/-- R336: a CFG of USB.WAKE_REQ records SOFTWARE. -/
def usbWakeReq (s : State) : State := noteSince 0x80 { s with usb.software := true }

/-- R336, R337: a device drive is pending: the host allows it and a reason is recorded. -/
def drivePending (s : State) : Bool :=
  (s.usb.reason != 0 || s.usb.software)
    && ((s.usb.state == .suspended && s.usb.rwakeOn) || (s.usb.state == .l1 && s.usb.l1Wake))

/-- R335, R336: the device drives K. -/
def execUsbRemoteWake (s : State) : Out :=
  .next (if live s && drivePending s && !s.usb.hostK then { s with usb.driving := true } else s)

/-- R336: the device's K drive ends; the host goes on with the resume. -/
def execRemoteWakeDriveEnd (s : State) : Out :=
  .next (if s.usb.driving then { s with usb.driving := false, usb.hostK := true } else s)

/-- R337: the host's resume K appears: it ends a device drive, or cancels one that is pending and sets MERGED. -/
def execHostKDetected (s : State) : Out :=
  .next (
    if !(s.usb.state == .suspended || s.usb.state == .l1) || s.usb.hostK then s else
    if s.usb.driving then { s with usb.driving := false, usb.hostK := true }
    else if drivePending s then noteSince 0x100 { s with usb.hostK := true, usb.merged := true }
    else { s with usb.hostK := true })

/-! ### DFU (R331, R332) -/

/-- A change of the DFU state. -/
def dfuGo (st : DfuState) (s : State) : State := raise 0x4E7 { s with usb.dfu := st }

/-- R331: another source holds a claim on MEM unit 22, itself or through the whole block. -/
def mem22Held (s : State) : Bool := s.cmd.claims.any fun c => c.1 != .usb && c.2.1 == 0x09 && (c.2.2 == 22 || c.2.2 == 0xFFFF)

/-- R331, R178: the detach of DFU mode ends the USB claims but the one on MEM unit 22, which stays or is taken. -/
def dfuClaim (s : State) : State :=
  let c := (Source.usb, 0x09, 22)
  let others := { s with cmd.claims := s.cmd.claims.filter (· != c) }
  let t := dropClaims .usb 0 others
  { t with cmd.claims := t.cmd.claims ++ [c] }

/-- R331: DFU_DETACH: the claim, the detach and the attach with the DFU-mode descriptor set. -/
def execDfuDetach (s : State) : Out :=
  .next (
    if !usbConfigured s then s else
    if !s.usb.desc.dfu || mem22Held s then stall s else
    dfuGo .dfuIdle (answer [] { usbDefault (usbDropBlocks true (dfuClaim s)) with
      usb.state := .dfu, usb.dfuMode := .runTime, usb.dfuStatus := 0, usb.dfuLen := 0, usb.dfuCode := 0 }))

/-- DFU fails with a bStatus. -/
def dfuFail (status code : Nat) (s : State) : State :=
  dfuGo .error { s with usb.dfuStatus := status, usb.dfuCode := code }

/-- The status code that the spec does not state for a write error of a download: an open value. -/
def dfuFailOpen (status : Nat) (s : State) : State :=
  let (code, s) := takeCode s
  dfuFail status code s

/-- The base of the slot that USB.DFU_SLOT names (Table 13.6). -/
def dfuBase (s : State) : Nat := if fld 0x14 0x00C s = 1 then 0x2080000 else 0x2000000

/-- Writes a block into the Glacier store from `a` on, word by word; in its first and last word the other bytes stay (R279). -/
def glWriteBytes (a : Nat) (b : List Byte) (s : State) : State :=
  let lo := a / 4 * 4
  let padded := List.replicate (a % 4) 0 ++ b
  (List.range ((padded.length + 3) / 4)).foldl (fun t k =>
    let be : BitVec 4 := (List.range 4).foldl (fun m j =>
      setBit m j (decide (a ≤ lo + 4 * k + j) && decide (lo + 4 * k + j < a + b.length))) 0
    glWrite (lo + 4 * k) (leWord padded k) be t) s

/-- R331, R332: one block of the download, or with no data its end. -/
def execDfuDnload (b : List Byte) (s : State) : Out :=
  .next (
    if !usbAnswers s || s.usb.dfuMode == .off then s else
    let first := s.usb.dfu == .dfuIdle
    if !(first || s.usb.dfu == .dnloadIdle) then dfuFailOpen 0x0F (stall s) else
    if b.isEmpty then (if first then dfuFailOpen 0x0F (stall s) else dfuGo .manifestSync (answer [] s)) else
    let off := if first then 0 else s.usb.dfuLen
    if 1024 < b.length then stall s
    else if 0x80000 < off + b.length then dfuFailOpen 0x08 s
    else if s.usb.dfuMode == .bootRom then
      dfuGo .dnloadIdle { setBytes (0x1000000 + off) b s with
        usb.dfuLen := off + b.length, usb.dfuCode := 0x0F, usb.dfuStatus := 0 }
    else
      let a := dfuBase s + off
      if glProtected a s || glProtected (a + b.length - 1) s then dfuFailOpen 0x03 (glDenied s)
      else dfuGo .dnloadIdle { glWriteBytes a b s with
        usb.dfuLen := off + b.length, usb.dfuCode := 0x0F, usb.dfuStatus := 0 })

/-- R332: DFU_CLRSTATUS. -/
def execDfuClrstatus (s : State) : Out :=
  .next (
    if usbAnswers s && s.usb.dfuMode != .off && s.usb.dfu == .error then
      dfuGo .dfuIdle (answer [] { s with usb.dfuStatus := 0 })
    else s)

/-- Table 16.6: the bStatus of a failed check's status code. -/
def dfuStatusOf (code : Nat) : Nat :=
  match code with | 0x02 => 0x02 | 0x03 => 0x02 | 0x09 => 0x0E | 0x0B => 0x07 | 0x0E => 0x01 | 0x0A => 0x0B | _ => 0x0E

/-! ### Registers (R342) -/

/-- USB.STATUS.STATE. -/
def usbStateCode : UsbState → Nat
  | .detached => 0 | .attached => 1 | .default => 2 | .addressed => 3 | .configured => 4 | .suspended => 5 | .l1 => 6
  | .dfu => 7

/-- USB.STATUS. -/
def usbStatus (s : State) : Word :=
  let u := s.usb
  BitVec.ofNat 32 (usbStateCode u.state * 2 ^ 28 + b2n u.speed * 2 ^ 27 + b2n s.sup.vbus * 2 ^ 26 + b2n u.rwakeOn * 2 ^ 25
    + b2n u.altOut * 2 ^ 24 + b2n u.altIn * 2 ^ 23 + u.rate % 8 * 2 ^ 20 + u.address % 128)

/-- USB.WAKE_STATUS. -/
def usbWakeStatus (s : State) : Word := (wakeBits s).setWidth 32

/-- A W1C write of USB.WAKE_STATUS. -/
def usbWakeW1c (w : Word) (s : State) : State := wakeClear (w.setWidth 9) s

/-- The DFU 1.1 number of a DFU state. -/
def dfuStateCode : DfuState → Nat
  | .appIdle => 0 | .appDetach => 1 | .dfuIdle => 2 | .dnloadSync => 3 | .dnBusy => 4 | .dnloadIdle => 5
  | .manifestSync => 6 | .manifest => 7 | .manifestWaitReset => 8 | .uploadIdle => 9 | .error => 10

/-- USB.DFU_STATUS. -/
def dfuStatusWord (s : State) : Word :=
  BitVec.ofNat 32 (s.usb.dfuCode % 256 * 2 ^ 24 + dfuStateCode s.usb.dfu * 2 ^ 20 + s.usb.dfuLen / 1024)

/-! ### Checks (R341) -/

/-- R341: the sub-reason with which CFG USB.EN = 1 fails with STATE, judged on pending values. -/
def usbEnCheck (s : State) : Option Nat :=
  let mix := mixHz (pend 0x01 0x010 s)
  let a := pend 0x14 0x011 s
  if (0 < pend 0x14 0x006 s || 0 < pend 0x14 0x007 s) && reportedRates (pend 0x14 0x009 s) mix = 0 then some 2
  else if a != 0 && !(strOk a s && strOk (a + strLen a s) s) then some 3
  else none

end Sys2Proof.Machine
end

