-- ==== Sys2Proof/Machine/Power.lean ====
section
/-! DEFINITION. 03_power_and_regulators: the supply monitor, the boost, the regulators, the keep charger, the wake
sources. -/

namespace Sys2Proof.Machine

/-- R68: the level of voltage code `c` in mV. -/
def codeMv (c : Nat) : Nat := 1700 + 20 * c

/-- R61: how many thresholds, from SAG0 on, three consecutive samples lie below. -/
def sagReached (low : Vector Nat 4) : Nat :=
  if vget low 0 0 < 3 then 0 else if vget low 1 0 < 3 then 1 else if vget low 2 0 < 3 then 2
  else if vget low 3 0 < 3 then 3 else 4

/-- R63: the brown-out warning's part of one sample. -/
def bowSample (mv : Nat) (s : State) : State :=
  let lvl := codeMv (fld 0x02 0x010 s)
  let low := if mv < lvl then s.sup.bowLow + 1 else 0
  let high := if lvl + 40 < mv then min 1000 (s.sup.bowHigh + 1) else 0
  let armed := s.sup.bowArmed || high == 1000
  let fire := armed && low == 3
  raiseIf fire 0x4D2 { s with
    sup.bow := decide (mv < lvl), sup.bowLow := low, sup.bowHigh := high, sup.bowArmed := armed && !fire }

/-- R61, R460: the sag thresholds' part of one sample. -/
def sagSample (mv : Nat) (s : State) : State :=
  let cnt (k : Nat) := if mv < codeMv (fld 0x02 (0x011 + k) s) then min 3 (vget s.sup.sagLow k 0 + 1) else 0
  let low : Vector Nat 4 := #v[cnt 0, cnt 1, cnt 2, cnt 3]
  let step := sagReached low
  let s := { s with sup.sagLow := low }
  if fld 0x02 0x015 s == 1 && s.sup.sagStep < step then
    raise 0x4D3 (spkLimiter { s with sup.sagStep := step })
  else s

/-- R61, R63, R70: one sample of the supply monitor. DEDUCED: a sample acts whenever one comes, also while the part is
unpowered, held in reset or in SHUTDOWN; the spec does not say when the monitor samples (assumption log 40). -/
def execVsupSample (mv : BitVec 12) (s : State) : Out :=
  .next (sagSample mv.toNat (bowSample mv.toNat
    { s with sup.nowMv := mv.toNat, sup.minMv := min s.sup.minMv mv.toNat }))

/-- R61: VSUP has stayed 40 mV above the threshold of the step in force for 200 ms. -/
def execSagStepRelease (s : State) : Out :=
  .next (
    if 0 < s.sup.sagStep && codeMv (fld 0x02 (0x010 + s.sup.sagStep) s) + 40 < s.sup.nowMv then
      spkLimiter { s with sup.sagStep := s.sup.sagStep - 1 }
    else s)

/-- R62, Table 03.6: the boost's inductor peak limit in mA. -/
def boostLimit (s : State) : Nat :=
  if fld 0x02 0x015 s == 1 && fld 0x31 0x003 s == 1 then 3200 - 400 * s.sup.sagStep else 3200

/-- R64, R66, R67: the effect of BOOST.EN on commit. Once it is 0, VSPK discharges. DEDUCED: VOUT_CUR keeps the last target
while the boost is off; the spec gives it no other value then (assumption log 40). -/
def boostEnable (v : Nat) (s : State) : State :=
  if v == 1 then
    if s.boost.phase == .idle then
      { s with boost := { s.boost with
          phase := .softStart, voutCur := fld 0x31 0x002 s, pgood := false, reached := false, discharging := false } }
    else s
  else { s with boost := { s.boost with
      phase := .idle, pgood := false, ssFail := false, ovp := false, ilimLeft := 0
      discharging := s.boost.discharging || s.boost.phase != .idle } }

/-- The boost switches. -/
def boostOn (s : State) : Bool := s.boost.phase == .softStart || s.boost.phase == .on

/-- Table 03.3: the boost is off outside RUN, and VSPK discharges. An over-voltage stop and a failed soft start stand: the
first ends once VSPK has fallen (R64), the second with BOOST.EN (R66). -/
def boostStop (s : State) : State :=
  if boostOn s then
    { s with boost := { s.boost with phase := .idle, pgood := false, ilimLeft := 0, discharging := true } }
  else s

/-- R64: VSPK is within 3 % of the target; waiting and muted channels go on (R452, R456). -/
def execBoostPgood (s : State) : Out :=
  .next (if boostOn s then spkPgood { s with boost.phase := .on, boost.pgood := true, boost.reached := true } else s)

/-- R64: VSPK leaves the 3 % band. -/
def execBoostPgoodLost (s : State) : Out := .next { s with boost.pgood := false }

/-- R64, R456: over-voltage stop. -/
def execBoostOvp (s : State) : Out :=
  .next (
    if boostOn s then
      raise 0x4D4 (spkMuteAll { s with boost.phase := .ovpStop, boost.ovp := true, boost.pgood := false })
    else s)

/-- R64: VSPK has fallen below the target, and in RUN the boost restarts at soft start. -/
def execBoostOvpRecovery (s : State) : Out :=
  .next (
    if !s.boost.ovp then s else
    { s with
      boost.ovp := false
      boost.phase :=
        if s.boost.phase != .ovpStop then s.boost.phase else if s.sup.modeCur == .run then .softStart else .idle })

/-- R66: PGOOD has not been set within 20 ms of BOOST.EN, also where an over-voltage stop came between. -/
def execBoostSsTimeout (s : State) : Out :=
  .next (
    if (s.boost.phase == .softStart || s.boost.phase == .ovpStop) && !s.boost.reached then
      raise 0x4D4 { s with boost.phase := .ssFailed, boost.ssFail := true }
    else s)

/-- R67: BOOST.STATUS.IDLE. -/
def boostIdle (s : State) : Bool := fld 0x31 0x001 s == 0 && s.boost.phase == .idle && !s.boost.discharging

/-- Table 03.14: BOOST.STATUS.ILIM_ACT. A limit reached for less than 1 ms has no command of its own, so while the boost is
in use the bit is open unless a limit held for 1 ms has just been reported (assumption log 40). -/
def boostIlimAct (s : State) : Bool × State :=
  if 0 < s.boost.ilimLeft then (true, s)
  else if s.boost.phase == .idle then (false, s)
  else
    let (w, s) := takeFree s
    (w.getLsbD 0, s)

/-- R71: the peak limit is held for 1 ms without a break. -/
def execBoostIlim (s : State) : Out :=
  .next (if boostOn s then raise 0x4D5 { s with boost.ilimLeft := 4 } else s)

/-- R55: VKEEP is within 0.1 V of its target. -/
def execKeepCharged (s : State) : Out :=
  .next (if s.sup.vsupUp then { s with sup.keepCharged := true } else s)

/-- R55: KEEP_CHARGED has not read 1 within 500 ms of POR. -/
def execVkeepCheckTimeout (s : State) : Out := .next (raiseIf (live s && !s.sup.keepCharged) 0x4D7 s)

/-- R55: KEEP_CHARGED falls with VSUP above BOR. -/
def execKeepChargeDrop (s : State) : Out :=
  .next (
    if s.sup.vsupUp && s.sup.keepCharged then raiseIf (live s) 0x4D7 { s with sup.keepCharged := false } else s)

/-- Table 03.3: VANA is on in RUN and LISTEN, VCORE in every mode but SHUTDOWN. -/
def vanaOn (s : State) : Bool := s.sup.modeCur == .run || s.sup.modeCur == .listen
def vcoreOn (s : State) : Bool := s.sup.modeCur != .shutdown

/-- R53: a rail has been out of regulation for 10 µs. A loss of VUSB detaches USB with the pump left on. -/
def execRegOutOfRegulation (r : Rail) (s : State) : Out :=
  .next (
    if !live s then s else
    match r with
    | .vcore => if vcoreOn s then raise 0x4D6 { s with sup.vcoreOk := false } else s
    | .vana => if vanaOn s then raise 0x4D6 { s with sup.vanaOk := false } else s
    | .vusb => if s.sup.usbPump then raise 0x4D6 (usbDetach { s with sup.vusbOk := false }) else s)

/-- R53: an enabled rail is back in regulation. -/
def execRegBackInRegulation (r : Rail) (s : State) : Out :=
  .next (
    match r with
    | .vcore => { s with sup.vcoreOk := s.sup.vcoreOk || vcoreOn s }
    | .vana => { s with sup.vanaOk := s.sup.vanaOk || vanaOn s }
    | .vusb => { s with sup.vusbOk := s.sup.usbPump })

/-- R53: VCORE or VANA has been out of regulation for 100 µs. -/
def execRegFailTimeout (same : Option ResetCause) (s : State) : Out :=
  .next (if live s && ((vcoreOn s && !s.sup.vcoreOk) || (vanaOn s && !s.sup.vanaOk)) then assertWith .regFail same s else s)

/-! ### Wake sources (R57, R65) -/

/-- The bit of PWR.WAKE_EN and PWR.WAKE_CAUSE (Table 03.4). -/
def wakeBit : WakeSrc → Nat
  | .voice => 0 | .ptt => 1 | .gpio => 2 | .twh => 3 | .usbResume => 4 | .usbVbus => 4 | .ring => 5 | .timer => 6

/-- Table 03.4: the mode accepts the source. -/
def wakeAccepts (m : PowerMode) (w : WakeSrc) : Bool :=
  match m, w with
  | .run, _ => false
  | .listen, _ => true
  | .standby, .voice => false
  | .standby, _ => true
  | .shutdown, .ptt => true
  | .shutdown, .usbVbus => true
  | .shutdown, .timer => true
  | .shutdown, _ => false

/-- R57: the source wakes in mode `m`: accepted there and enabled; PTT and voice always wake from LISTEN. -/
def wakes (m : PowerMode) (w : WakeSrc) (s : State) : Bool :=
  wakeAccepts m w &&
    ((fld 0x02 0x002 s).testBit (wakeBit w) || (m == .listen && (w == .voice || w == .ptt)))

/-- The mode that PWR.MODE will enter at the next tick. -/
def modePending (s : State) : PowerMode :=
  match s.sup.drainWait with
  | some m => m
  | none => match pend 0x02 0x001 s with | 0 => .run | 1 => .listen | 2 => .standby | _ => .shutdown

/-- R57, R58, R65, R115: a wake source fires. Outside RUN the exit begins, or from SHUTDOWN a reset; while an entry is
pending the source is kept for the tick that enters. -/
def wakeFire (w : WakeSrc) (s : State) : State :=
  let bit : BitVec 7 := BitVec.ofNat 7 (2 ^ wakeBit w)
  match s.sup.modeCur with
  | .run => if running s && wakes (modePending s) w s then { s with sup.wakePend := s.sup.wakePend ||| bit } else s
  | .shutdown =>
    if wakes .shutdown w s then
      let s := assertReset .shutdownWake s
      { s with rst.phase := .regulators, rst.capWake := bit }
    else s
  | m =>
    if wakes m w s then
      { s with sup.waking := true, sup.wakeCause := s.sup.wakeCause ||| bit }
    else s

/-- R57: a wake source of Table 03.4 fires; a fire while the bus is suspended is also a remote-wake reason (R336). -/
def execWakeSource (w : WakeSrc) (s : State) : Out :=
  .next (wakeFire w (usbWakeReason (BitVec.ofNat 7 (2 ^ wakeBit w)) s))

/-- R57, R68: the keep-domain wake timer expires. -/
def execWakeTimerExpiry (s : State) : Out :=
  .next (
    if s.sup.wakeTimerOn then
      wakeFire .timer (usbWakeReason 0x40 { s with sup.wakeTimerOn := false })
    else s)

end Sys2Proof.Machine
end

