-- ==== Sys2Proof/Machine/Mic.lean ====
section
/-! DEFINITION. 18_microphones_and_wake: microphone channels, PDM inputs, the wake path with its voice detector, the PTT
wake, the firn vault. Samples of the analogue world come from outside, after the chain of Table 18.1. -/

namespace Sys2Proof.Machine

/-! ### Channels (R371, R376 to R378) -/

/-- MIC.CH_EN bit `m` is in force. -/
def chEn (m : Nat) (s : State) : Bool := (fld 0x18 0x001 s).testBit m

/-- Channel `m` is named as a wake microphone. -/
def wakeMic (m : Nat) (s : State) : Bool := m != 0 && (fld 0x19 0x001 s == m || fld 0x19 0x002 s == m)

/-- R376: PDM microphone `k` has a use that keeps its clock running. -/
def pdmUsed (k : Nat) (s : State) : Bool :=
  chEn (4 + k) s || wakeMic (4 + k) s || (calRunning 5 none s && (fld 0x18 0x030 s).testBit (4 + k))

/-- R376: PDM clock `g` is wanted; microphones 0 to 7 are on PDM_CLK0, 8 to 15 on PDM_CLK1. -/
def pdmClkWanted (g : Nat) (s : State) : Bool :=
  (s.sup.modeCur == .run || s.sup.modeCur == .listen) && (List.range 8).any fun i => pdmUsed (8 * g + i) s

/-- The microphones of clock group `g`. -/
def pdmGroup (g : Nat) : BitVec 16 := if g = 0 then 0x00FF else 0xFF00

/-- R33, R376: the data balls, by fuse index, of the microphones in use. -/
def pdmDataBalls (s : State) : Nat :=
  ((List.range 8).map fun j => if pdmUsed (2 * j) s || pdmUsed (2 * j + 1) s then 2 ^ (34 + j) else 0).sum

/-- R376, R377: the clocks as they are wanted now; a clock that starts mutes its group for 10 ms. -/
def pdmClocks (s : State) : State :=
  let go (g : Nat) (s : State) : State :=
    let want := pdmClkWanted g s
    let s := if want && !s.mic.pdmClk.getLsbD g then
        assignBalls (2 ^ (32 + g)) { s with mic.muted := s.mic.muted ||| pdmGroup g }
      else s
    { s with mic.pdmClk := setBit s.mic.pdmClk g want }
  assignBalls (pdmDataBalls s) (go 1 (go 0 s))

/-- R80, R377: a mode change alters the rate of the PDM clocks that run. -/
def pdmRateChange (s : State) : State :=
  if fld 0x18 0x002 s = 0 then s else
  let go (g : Nat) (s : State) : State :=
    if s.mic.pdmClk.getLsbD g then { s with mic.muted := s.mic.muted ||| pdmGroup g } else s
  go 1 (go 0 s)

/-- R371, R377: channel `m` writes zero for the frame that closes: it is disabled, was enabled only at the tick that opened
the frame, or its PDM microphone is muted or stuck. -/
def micZero (m : Nat) (s : State) : Bool :=
  !chEn m s || !s.mic.wasEn.getLsbD m || (4 ≤ m && (s.mic.muted.getLsbD (m - 4) || s.mic.stuckNow.getLsbD (m - 4)))

/-- R402, Table 19.1: what a forced self-test makes of the frame of `thirds` that closes on AADC channel `m`. -/
def selftestMute (m thirds : Nat) (s : State) : MuteKind :=
  let age := vget s.mic.muteAge m 0
  if m < 4 && aadcMuted m s then
    let age := age + thirds
    if 2 * age < 4 * thirds + 3 ∨ 123 < 2 * age then .fade else .zero
  else if m < 4 && age != 0 then .fade else .none

/-- `n` open samples. -/
def openSamples : Nat → State → List Word × State
  | 0, s => ([], s)
  | n + 1, s =>
    let (w, s) := takeFree s
    let (ws, s) := openSamples n s
    (w :: ws, s)

/-- R371: every stream that a microphone channel writes takes its frame of `F` samples and `thirds` of a millisecond. A
frame that a fade of Table 19.1 may touch is open: the moment within the frame at which the fade runs is not known (assumption
log 50). -/
def captureMics (inp : TickIn) (F thirds : Nat) (s : State) : State :=
  let s := s.strm.s.foldl (fun t p =>
    match p.2.writer with
    | some (5, m) =>
      let heard := ((inp.mics.find? (·.1 == m)).map (·.2)).getD []
      let (ws, t) :=
        if micZero m t then ([], t)
        else match selftestMute m thirds t with
          | .none => (heard, t)
          | .zero => ([], t)
          | .fade => openSamples F t
      setStrm p.1 { strm p.1 t with wbuf := frameOf (ws.take F) } t
    | _ => t) s
  { s with
    mic.wasEn := BitVec.ofNat 20 (fld 0x18 0x001 s)
    mic.muteAge := Vector.ofFn fun x : Fin 4 => if aadcMuted x s then vget s.mic.muteAge x 0 + thirds else 0 }

/-- R373: PGA `x` takes a step of 1 dB toward its setting. -/
def execPgaStep (x : Fin 4) (s : State) : Out :=
  .next (
    let now := vget s.mic.pga x 0
    let want := fld 0x18 (0x010 + x.val) s
    if !live s then s
    else if now < want then { s with mic.pga := vset s.mic.pga x (now + 1) }
    else if want < now then { s with mic.pga := vset s.mic.pga x (now - 1) }
    else s)

/-- R377: 10 ms have passed since microphone `k`'s clock started or changed. -/
def execPdmStartupMuteEnd (k : Fin 16) (s : State) : Out :=
  .next (if live s then { s with mic.muted := setBit s.mic.muted k false } else s)

/-- R377: microphone `k` has held one level for 10 ms. -/
def execPdmStuck (k : Fin 16) (s : State) : Out :=
  .next (
    if live s && s.mic.pdmClk.getLsbD (k.val / 8) && pdmUsed k s && !s.mic.stuckNow.getLsbD k then
      raise 0x486 { s with mic.stuckNow := setBit s.mic.stuckNow k true, mic.stuck := setBit s.mic.stuck k true }
    else s)

/-- R377: a stuck microphone has seen 10 ms of changing data. -/
def execPdmRecover (k : Fin 16) (s : State) : Out :=
  .next (if live s then { s with mic.stuckNow := setBit s.mic.stuckNow k false } else s)

/-- R375: the load of MICBIAS`n` reaches its limit. -/
def execMicBiasIlim (n : Fin 2) (s : State) : Out :=
  .next (
    if live s && biasOn n s then raise 0x484 { s with mic.biasIlim := setBit s.mic.biasIlim n true } else s)

/-- R378: a decimated sample of channel `m` reaches full scale. -/
def execMicClip (m : Fin 20) (s : State) : Out :=
  .next (
    if live s && chEn m s then
      raiseIf (!s.mic.clipFrame) 0x485 { s with mic.clip := setBit s.mic.clip m true, mic.clipFrame := true }
    else s)

/-- R375: MICBIAS`n` follows a low VSUP. -/
def biasDropout (n : Nat) (s : State) : Bool := biasOn n s && s.sup.nowMv < 1800 + 100 * fld 0x18 (0x021 + n) s + 150

/-- MIC.STATUS. -/
def micStatus (s : State) : Word :=
  let ramp := (List.range 4).foldl (fun (b : BitVec 4) x => setBit b x (vget s.mic.pga x 0 != fld 0x18 (0x010 + x) s)) 0
  BitVec.ofNat 32 (b2n (biasDropout 1 s) * 2 ^ 9 + b2n (biasDropout 0 s) * 2 ^ 8 + s.mic.biasIlim.toNat * 2 ^ 4
    + ramp.toNat)

/-- MIC.CAL_RESULT. -/
def micCalResult (s : State) : Word :=
  BitVec.ofNat 32 (s.mic.calCode % 256 * 2 ^ 24 + s.mic.calSub % 16 * 2 ^ 20 + s.mic.calCh % 32 * 2 ^ 8
    + s.mic.calValue.toNat)

/-- R112: BRESET of MIC resets the channel fields and their status. WAKE keeps its own: what the wake path hears of its
microphones stands, but for the 10 ms after a change of the PDM clocks' rate (R377). -/
def micBreset (s : State) : State :=
  let rate := s.sup.modeCur == .run && fld 0x18 0x002 s != fld 0x18 0x002 (resetFields 0x18 s)
  let group (g : Nat) : BitVec 16 := if rate && s.mic.pdmClk.getLsbD g then pdmGroup g else 0
  { resetFields 0x18 s with mic := {
      pdmClk := s.mic.pdmClk, stuckNow := s.mic.stuckNow, muted := s.mic.muted ||| group 0 ||| group 1
      arrayLost := s.mic.arrayLost } }

/-- R394: MIC.PDM_DIV may not change now. -/
def pdmDivBusy (s : State) : Bool :=
  (List.range 16).any (fun k => (pend 0x18 0x001 s).testBit (4 + k) || chEn (4 + k) s)
    || pend 0x19 0x001 s != 0 || pend 0x19 0x002 s != 0 || fld 0x19 0x001 s != 0 || fld 0x19 0x002 s != 0
    || calRunning 5 none s

/-! ### The vault (R388 to R393) -/

/-- The vault's bank. -/
def vaultBase : Nat := 0x1C00000

/-- C: the number of wake microphones named. -/
def vaultC (s : State) : Nat := b2n (fld 0x19 0x001 s != 0) + b2n (fld 0x19 0x002 s != 0)

/-- R388: the vault records. -/
def vaultRecords (s : State) : Bool :=
  live s && 0 < vaultC s && !s.vault.open_ && (s.sup.modeCur == .run || s.sup.modeCur == .listen)

/-- R377: the wake path takes zero from a microphone that is muted or stuck. -/
def wakeHears (m : Nat) (s : State) : Bool := 4 ≤ m && !s.mic.muted.getLsbD (m - 4) && !s.mic.stuckNow.getLsbD (m - 4)

/-- One sample period is recorded: 24 valid bits of each microphone named. -/
def vaultOne (s : State) (p : Word × Word) : State :=
  let a := fld 0x19 0x001 s
  let b := fld 0x19 0x002 s
  let v (m : Nat) (w : Word) : Word := if wakeHears m s then w &&& 0xFFFFFF00 else 0
  let ws := (if a != 0 then [v a p.1] else []) ++ (if b != 0 then [v b p.2] else [])
  let s := setWords (vaultBase + 4 * (vaultC s * s.vault.index)) ws s
  { s with vault.index := (s.vault.index + 1) % 32000, vault.valid := min 32000 (s.vault.valid + 1) }

/-- R388: the wake path's samples enter the vault while it records. -/
def vaultRecord (ps : List (Word × Word)) (s : State) : State := if vaultRecords s then ps.foldl vaultOne s else s

/-- R388, R392: the key is renewed: the contents are gone and the vault is closed. -/
def vaultSeal (event : Bool) (s : State) : State :=
  let s := zeroRange vaultBase 0x1C40000 s
  raiseIf event 0x483 { s with vault := {
    freezeFrame := s.vault.freezeFrame, wakeIndex := s.vault.wakeIndex, lastIndex := s.vault.lastIndex } }

/-- R392: OPEN_LIMIT in thirds of a millisecond. -/
def openLimit (s : State) : Nat := 3000 * fld 0x1A 0x002 s

/-- R392, R393: a re-seal; one that falls due during an export waits. -/
def vaultReseal (s : State) : State :=
  if s.vault.exporting.isSome then { s with vault.resealDue := true } else vaultSeal true s

/-- R390, R506: at a tick of RUN a vault whose wake has fired opens and freezes, in no quiet stop. -/
def vaultOpenTick (s : State) : State :=
  if (s.vault.firedPtt || s.vault.firedVoice) && s.lcy.quiet.isNone then
    raise 0x482 { s with
      vault.open_ := true, vault.byPtt := s.vault.firedPtt, vault.byVoice := s.vault.firedVoice
      vault.firedPtt := false, vault.firedVoice := false
      vault.lastIndex := (s.vault.index + 31999) % 32000, vault.freezeFrame := s.clk.frameCnt
      vault.openLeft := openLimit s, vault.chans := vaultC s }
  else s

/-- R390, R392: the vault's part of a hardware wake. -/
def vaultWake (voice : Bool) (s : State) : State :=
  if s.lcy.quiet.isSome then s
  else if s.vault.open_ then { s with vault.openLeft := openLimit s }
  else if vaultRecords s then
    let first := !(s.vault.firedPtt || s.vault.firedVoice)
    { s with
      vault.firedVoice := s.vault.firedVoice || voice, vault.firedPtt := s.vault.firedPtt || !voice
      vault.wakeIndex := if first then s.vault.index else s.vault.wakeIndex }
  else s

/-- R392: OPEN_LIMIT seconds have passed. -/
def execVaultOpenLimit (s : State) : Out := .next (if s.vault.open_ then vaultReseal s else s)

/-- R393: the words of the open vault, oldest sample first. -/
def vaultWords (s : State) : List Word :=
  let c := s.vault.chans
  let oldest := s.vault.lastIndex + 1 + 32000 - s.vault.valid
  (List.range s.vault.valid).flatMap fun i =>
    (List.range c).map fun j => wordAt (vaultBase + 4 * (c * ((oldest + i) % 32000) + j)) s

/-- R393: VAULT.EXPORT on commit. -/
def vaultExport (dst : Nat) (s : State) : State := { s with vault.exporting := some dst }

/-- R393: the export completes; a re-seal that waited takes place. -/
def execVaultExportDone (s : State) : Out :=
  .next (
    match s.vault.exporting with
    | none => s
    | some d =>
      let s := raise 0x487 { ramWriteWords d (vaultWords s) s with vault.exporting := none }
      if s.vault.resealDue then vaultSeal true s else s)

/-- VAULT.STATUS. -/
def vaultStatus (s : State) : Word :=
  let v := s.vault
  BitVec.ofNat 32 (b2n v.open_ * 2 ^ 31 + b2n v.exporting.isSome * 2 ^ 30 + b2n v.byPtt * 2 ^ 29 + b2n v.byVoice * 2 ^ 28
    + b2n ((if v.open_ then v.chans else vaultC s) == 2) * 2 ^ 27 + v.lastIndex % 2 ^ 15)

/-! ### Hardware wakes (R385 to R387) -/

/-- R387: the voice detector or the PTT wake fires. -/
def hardwareWake (voice : Bool) (s : State) : State :=
  let bit : BitVec 7 := if voice then 1 else 2
  let s := raise (if voice then 0x480 else 0x481) s
  let s := { s with sup.wakeCause := s.sup.wakeCause ||| bit }
  wakeFire (if voice then .voice else .ptt) (usbWakeReason bit (vaultWake voice s))

/-- R38: the keep domain, which senses PTT_N, is up. -/
def keepUp (s : State) : Bool := s.sup.vsupUp || s.sup.keepOk

/-- R386: PTT_N has been low for its debounce time; `ps` are the wake path's samples since the last ones given. Before the
release of internal reset the keep domain alone sees it. -/
def execPttWake (ps : List (Word × Word)) (s : State) : Out :=
  .next (
    if !keepUp s || !s.wake.pttArmed then s
    else if !live s then { s with wake.pttLow := true, wake.pttArmed := false }
    else hardwareWake false (raise 0x518 { vaultRecord ps s with
      wake.pttLow := true, wake.pttArmed := false, gpio.ptt := true }))

/-- R385: one microphone's part of a block: level and peak of a microphone named and heard, against its floor. -/
def voiceLike (m : Nat) (level : Int) (peak : Nat) (floor : Option Int) (s : State) : Bool :=
  m != 0 && wakeHears m s
    && decide ((-7000 + 100 * fld 0x19 0x004 s : Int) ≤ level)
    && decide (floor.getD level + 100 * fld 0x19 0x005 s ≤ level)
    && decide (20 + 4 * fld 0x19 0x006 s ≤ peak)

/-- R385: the noise floor falls at once and rises at 1 dB/s, a hundredth of a decibel a block. -/
def floorNext (level : Int) (floor : Option Int) : Option Int := some (min level ((floor.getD level) + 1))

/-- R381: a MIC_ARRAY calibration suppresses the detector. -/
def wakeSuppressed (s : State) : Bool := calRunning 5 none s

/-- R385: the detector runs. -/
def voiceRuns (s : State) : Bool :=
  live s && 0 < vaultC s
    && (s.sup.modeCur == .listen || (s.sup.modeCur == .run && fld 0x19 0x003 s == 1))

/-- R385: the detector's part of a block whose voice-likeness is `v`. -/
def voiceJudge (v : Bool) (s : State) : State :=
  let hold := fld 0x19 0x007 s
  let blocks := (v :: s.wake.blocks).take (2 * hold)
  let quiet := if v then 0 else min 50 (s.wake.quiet + 1)
  let armed := s.wake.armed || quiet == 50
  let fire : Bool := v && armed && hold ≤ blocks.countP id && !wakeSuppressed s
  let s := { s with wake.blocks := blocks, wake.quiet := quiet, wake.armed := armed && !fire }
  if fire then hardwareWake true s else s

/-- R384, R385, R388: the wake path's block of 10 ms: levels in hundredths of a dBFS, autocorrelation peaks in
hundredths, and its samples, which the vault records. -/
def execVoiceBlock (levelA levelB : Int) (peakA peakB : Nat) (ps : List (Word × Word)) (s : State) : Out :=
  .next (
    let s := vaultRecord ps s
    if !voiceRuns s then s else
    let v := voiceLike (fld 0x19 0x001 s) levelA peakA s.wake.floorA s
      || voiceLike (fld 0x19 0x002 s) levelB peakB s.wake.floorB s
    voiceJudge v { s with
      wake.floorA := floorNext levelA s.wake.floorA, wake.floorB := floorNext levelB s.wake.floorB })

/-- R386, R494: PTT_N has been high for its debounce time. -/
def execPttUp (s : State) : Out :=
  .next (
    if keepUp s then
      raiseIf s.gpio.ptt 0x519 { s with wake.pttLow := false, wake.pttArmed := true, gpio.ptt := false }
    else s)

/-- WAKE.STATUS. -/
def wakeStatus (s : State) : Word := BitVec.ofNat 32 (b2n (wakeSuppressed s) * 2 + b2n s.wake.pttLow)

end Sys2Proof.Machine
end

