-- ==== Sys2Proof/Machine/Pins.lean ====
section
/-! DEFINITION. 23_halo_and_gpio: the LED halo driver and the general-purpose pins. -/

namespace Sys2Proof.Machine

/-! ### The halo (R481 to R489) -/

/-- R482: slots per halo frame. -/
def haloSlots (s : State) : Nat := match fld 0x38 0x002 s with | 0 => 1 | 1 => 2 | _ => 4

/-- R488: page codes and MASTER are frozen at the tick that begins a rebase; a rebase under way keeps them. -/
def haloFreeze (s : State) : State :=
  { s with halo.frozen := some (s.halo.frozen.getD (s.halo.pages, fld 0x38 0x004 s)), halo.rebasing := true }

/-- R488: the freeze ends. -/
def haloThaw (s : State) : State := { s with halo.frozen := none, halo.rebasing := false, halo.offset := 0 }

/-- R485, R488: the code of LED `k` of page `p` that the halo shows. -/
def haloPage (p k : Nat) (s : State) : Byte := smGet 0 (96 * p + k) ((s.halo.frozen.map (·.1)).getD s.halo.pages)

/-- R483, R488: the MASTER that the halo shows. -/
def haloMaster (s : State) : Nat := (s.halo.frozen.map (·.2)).getD (fld 0x38 0x004 s)

/-- R485: writes page `p` from its 96 codes. -/
def haloWritePage (p : Nat) (codes : List Byte) (s : State) : State :=
  { s with halo.pages := codes.zipIdx.foldl (fun m c => smSet 0 (96 * p + c.2) c.1 m) s.halo.pages }

/-- R486: the page after page `p` in the sequence taken. -/
def haloNext (p : Nat) (s : State) : Nat := (p + 1) % max 1 s.halo.len

/-- R486: the pattern code of LED `k` in the present halo frame. -/
def haloCode (k : Nat) (s : State) : Int :=
  let c := (haloPage s.halo.page k s).toNat
  if s.halo.fading then
    let n := (haloPage (haloNext s.halo.page s) k s).toNat
    let d : Int := ((n : Int) - c) * s.halo.frame
    let f := max 1 s.halo.fade
    c + (if 0 ≤ d then d / f else -((-d) / f))
  else c

/-- R483: the displayed code of LED `k`: scaled by MASTER, ties rounded up. -/
def haloShown (k : Nat) (s : State) : Int := (2 * haloCode k s * haloMaster s + 255) / 510

/-- R483, R488: the time for which LED `k` is lit in its slot of the halo frame in progress, in nanoseconds: its share of the
slot without the first 4 µs. -/
def haloOnNs (k : Nat) (s : State) : Nat :=
  (haloShown k s).toNat * (s.halo.span * 1000000 / (12 * haloSlots s) - 4000) / 255

/-- R486: SEQ_LEN, HOLD_p, FADE_p and REPEAT are taken for page `p`. -/
def haloTake (p : Nat) (s : State) : State :=
  { s with
    halo.page := p, halo.fading := false, halo.taken := true
    halo.len := fld 0x38 0x005 s, halo.rep := fld 0x38 0x006 s
    halo.hold := fld 0x38 (0x014 + p) s, halo.fade := fld 0x38 (0x018 + p) s }

/-- R486: the last page of the last cycle is on show. -/
def haloLast (s : State) : Bool :=
  s.halo.rep != 0 && decide (s.halo.rep ≤ s.halo.cycles + 1) && decide (s.halo.len ≤ s.halo.page + 1)

/-- R486: the sequence goes to the next page, in the first of its frames. -/
def haloTurn (s : State) : State :=
  let p := haloNext s.halo.page s
  haloTake p { s with halo.frame := 1, halo.cycles := if p = 0 then s.halo.cycles + 1 else s.halo.cycles }

/-- R486: a page whose HOLD is 0 is not shown: the sequence goes on with `next`. -/
def haloPass (next : State → State) (s : State) : State :=
  if s.halo.hold = 0 then next { s with halo.frame := 0 } else s

/-- R486: one halo frame of the sequence. A page with neither hold nor fade is passed within the frame, at most `n` of
them. -/
def haloSeq : Nat → State → State
  | 0, s => s
  | n + 1, s =>
    if s.halo.ended then s
    else if s.halo.fading then
      if s.halo.frame < s.halo.fade then { s with halo.frame := s.halo.frame + 1 } else haloPass (haloSeq n) (haloTurn s)
    else if s.halo.frame < s.halo.hold then { s with halo.frame := s.halo.frame + 1 }
    else if haloLast s then raise 0x461 { s with halo.ended := true, halo.seqDone := true }
    else if 0 < s.halo.fade then { s with halo.fading := true, halo.frame := 1 }
    else haloPass (haloSeq n) (haloTurn s)

/-- R486: the sequencer's part of the start of a halo frame. -/
def haloStep (s : State) : State :=
  if s.halo.startDue then
    haloSeq 4 (haloTake 0 { s with halo.startDue := false, halo.frame := 0, halo.cycles := 0, halo.ended := false })
  else if s.halo.taken then haloSeq 4 s
  else haloSeq 4 (haloTake 0 s)

/-- R484: a halo frame starts. -/
def haloFrameStart (s : State) : State :=
  let s := { s with halo.span := 12, halo.left := 12 }
  if s.halo.rebasing then s else haloStep s

/-- R488: a lengthened halo frame starts while the grid is being aligned. -/
def haloLengthen (s : State) : State :=
  let more := min (12 / haloSlots s) s.halo.offset
  { s with halo.span := 12 + more, halo.left := s.halo.left + 12 + more, halo.offset := s.halo.offset - more }

/-- R488: a halo frame starts at a moment that is not a tick. -/
def execHaloRebaseFrameStart (s : State) : Out :=
  .next (
    if ticking s && s.halo.run && s.halo.rebasing && 0 < s.halo.offset && s.halo.left < 12 then haloLengthen s else s)

/-- Twelfths of a millisecond of a frame. -/
def tickSpan (short : Nat) : Nat := if short = 1 then 4 else 12

/-- R484: HALO.EN = 1 has committed and a halo frame may start at this tick, which opens frame `n`. -/
def haloMayStart (n : Word) (s : State) : Bool :=
  fld 0x38 0x001 s == 1 && (fld 0x01 0x011 s == 0 || n.toNat % 3 == 0)

/-- R484, R486, R488: the halo at a tick that opens frame `n`; `short` is the frame mode of the frame that closes and
`timing` says that the tick applies a mix-rate or frame-mode change. -/
def haloTick (n : Word) (short : Nat) (timing : Bool) (s : State) : State :=
  if !s.halo.run then
    if haloMayStart n s then haloFrameStart { haloThaw s with halo.run := true } else s
  else
    let s := if s.halo.left < tickSpan short && s.halo.rebasing then haloLengthen s else s
    let s := { s with halo.left := s.halo.left - tickSpan short }
    let x := s.halo.span - s.halo.left
    if timing then
      if s.halo.left = 0 || 12 ≤ x then haloFrameStart (haloThaw s)
      else { haloFreeze s with halo.offset := x, halo.left := 12 - x }
    else if s.halo.left = 0 then
      haloFrameStart (if s.halo.rebasing && s.halo.offset != 0 then s else haloThaw s)
    else s

/-- R484: HALO.EN = 0 commits: sinks off, and a rebase ends. -/
def haloOff (s : State) : State :=
  { haloThaw s with halo.run := false, halo.left := 0 }

/-- R489: entering a mode turns the halo off; SHUTDOWN clears its pages and its position as a reset does. -/
def haloModeEntry (m : PowerMode) (s : State) : State :=
  if m == .shutdown then { s with halo := {} } else haloOff s

/-- R36, R482: HALO.EN commits with value `v`; the first EN = 1 assigns the commons in use. -/
def haloEnable (v : Nat) (s : State) : State :=
  if v = 1 then
    assignBalls (match fld 0x38 0x002 s with | 0 => 0 | 1 => 3 * 2 ^ 42 | _ => 15 * 2 ^ 42) s
  else haloOff s

/-- R487: sink `k` has been found open; its code was 16 or more on some common. -/
def execHaloOpen (sink : Fin 24) (s : State) : Out :=
  .next (
    let lit := (List.range (haloSlots s)).any fun j => 16 ≤ haloShown (24 * j + sink.val) s
    if live s && s.halo.run && fld 0x38 0x008 s == 1 && lit && fld 0x38 (0x020 + sink) s != 0 then
      raise 0x460 { s with halo.open_ := setBit s.halo.open_ sink true }
    else s)

/-- R481: the sum of all ISINK_s that would hold once `v` is committed for sink `k`. -/
def isinkSum (k v : Nat) (s : State) : Nat :=
  (List.range 24).foldl (fun t j => t + if j = k then v else pend 0x38 (0x020 + j) s) 0

/-- R112: BRESET of HALO. -/
def haloBreset (s : State) : State := { resetFields 0x38 s with halo := {} }

/-- HALO.STATUS. -/
def haloStatus (s : State) : Word :=
  let h := s.halo
  BitVec.ofNat 32 (b2n h.rebasing * 128 + b2n h.seqDone * 64 + h.page % 4 * 16 + b2n h.fading * 8 + b2n h.run * 4)

/-! ### General-purpose pins (R490 to R494) -/

/-- R490, Table 23.1: the pin has the function. -/
def gpioFuncOk (n v : Nat) : Bool := v ≤ 1 || (v == 2 && n < 8) || (v == 3 && (n == 8 || n == 9))

/-- Table 02.3: what a pin-state code makes of a ball; 0b101 to 0b111 give Hi-Z. -/
def codeBall (c : Nat) : Ball :=
  match c with
  | 1 => { pull := .up 50000 }
  | 2 => { pull := .down 50000 }
  | 3 => { drive := .low }
  | 4 => { drive := .high }
  | _ => {}

/-- RST_CODE and POST_CODE of fuse index `n` as the pin-state shadow holds them. -/
def rstCode (n : Nat) (s : State) : Nat := (smGet 0 n s.pin.shadow).toNat % 8
def postCode (n : Nat) (s : State) : Nat := (smGet 0 n s.pin.shadow).toNat / 16 % 8

/-- Table 02.4: the phase of configurable ball `n`. SHUTDOWN puts it in the reset phase (R56, R493). -/
def ballPhase (n : Nat) (s : State) : BallPhase :=
  if !s.pin.loaded then .unfused
  else if !live s || s.sup.modeCur == .shutdown then .reset
  else if s.pin.assigned.getLsbD n then .assigned
  else .after

/-- R39: GPIO12 to GPIO15 carry straps. -/
def strapBall (n : Nat) : Bool := 12 ≤ n && n ≤ 15

/-- R40: CKMODE is 0b01: as sampled, or before that as the straps stand. -/
def mclkInput (s : State) : Bool :=
  if live s then s.rst.ckmode == 1 else s.gpio.level.getLsbD 14 && !s.gpio.level.getLsbD 15

/-- R36, R37, R40, Table 02.4: the state of configurable ball `n`, `own` being what its function makes of it. -/
def phaseBall (own : Ball) (n : Nat) (s : State) : Ball :=
  if n = 46 && mclkInput s then {}
  else match ballPhase n s with
  | .unfused => {}
  | .reset => if strapBall n then {} else codeBall (rstCode n s)
  | .after => codeBall (postCode n s)
  | .assigned => own

/-- R490, Table 23.1: what GPIO.FUNC_n, PULL_n and OD_n make of ball `n`. -/
def gpioOwn (n : Nat) (s : State) : Ball :=
  let pull : Pull := match fld 0x39 (0x010 + n) s with | 1 => .up 50000 | 2 => .down 50000 | _ => .none
  match fld 0x39 n s with
  | 1 =>
    if !(fld 0x39 0x040 s).testBit n then { drive := .low, pull := pull }
    else { drive := if fld 0x39 (0x020 + n) s == 1 then .off else .high, pull := pull }
  | 3 => { drive := if fld 0x01 (if n = 8 then 0x002 else 0x003) s != 0 then .signal else .low, pull := pull }
  | _ => { pull := pull }

/-- R490: the level of ball `n`: the one it is driven to, else what the board or the alternate's signal puts on it. -/
def gpioLevel (n : Nat) (s : State) : Bool :=
  match (phaseBall (gpioOwn n s) n s).drive with
  | .low => false
  | .high => true
  | _ => s.gpio.level.getLsbD n

/-- GPIO.IN. -/
def gpioIn (s : State) : Word := (List.range 16).foldl (fun w n => setBit w n (gpioLevel n s)) 0

/-- R491: a level change of ball `n` is seen; with its edge enabled it is marked and reported, in RUN. -/
def execGpioEdge (n : Fin 16) (high : Bool) (s : State) : Out :=
  .next (
    if !s.sup.vsupUp then s else
    let s := { s with gpio.level := setBit s.gpio.level n high }
    let e := fld 0x39 (0x030 + n) s
    let on : Bool := if high then e == 1 || e == 3 else e == 2 || e == 3
    if live s && s.sup.modeCur == .run && !s.sup.waking && fld 0x39 n.val s ≤ 1 && on then
      raise (0x500 + n) { s with gpio.edgeSeen := setBit s.gpio.edgeSeen n true }
    else s)

/-- R492: a press or release of button `n` is accepted; outside RUN its event waits for the return. -/
def execBtn (n : Fin 8) (pressed : Bool) (s : State) : Out :=
  .next (
    if !live s || s.sup.modeCur == .shutdown || fld 0x39 n.val s != 2 || s.gpio.btn.getLsbD n == pressed then s else
    let s := { s with
      gpio.btn := setBit s.gpio.btn n pressed, gpio.level := setBit s.gpio.level n (!pressed) }
    if s.sup.modeCur == .run && !s.sup.waking then raise (0x510 + n) s
    else { s with gpio.btnOwed := setBit s.gpio.btnOwed n true })

/-- R492: the button events that waited are raised after RUN returns. -/
def btnReturn (s : State) : State :=
  (List.range 8).foldl (fun t n => raiseIf (s.gpio.btnOwed.getLsbD n) (0x510 + n) t) { s with gpio.btnOwed := 0 }

/-- R490: GPIO.SET and GPIO.CLR. -/
def gpioOut (set : Bool) (mask : Nat) (s : State) : State :=
  let old := fld 0x39 0x040 s
  setFld 0x39 0x040 (if set then old ||| mask else old &&& (0xFFFF - mask)) s

/-- R112: BRESET of GPIO: every assigned ball becomes an input with no pull; PTT sensing stays. -/
def gpioBreset (s : State) : State :=
  { resetFields 0x39 s with gpio := { s.gpio with edgeSeen := 0, btn := 0, btnOwed := 0 } }

/-- GPIO.STATUS. -/
def gpioStatus (s : State) : Word := BitVec.ofNat 32 (b2n s.gpio.ptt * 256 + s.gpio.btn.toNat)

/-- R45: GPIO.PINFUSE_n. -/
def pinfuseWord (n : Nat) (s : State) : Word :=
  BitVec.ofNat 32 (b2n (s.pin.assigned.getLsbD n) * 1024 + b2n s.pin.valid * 512 + b2n (12 ≤ n && n ≤ 15) * 256
    + (smGet 0 n s.pin.shadow).toNat)

end Sys2Proof.Machine
end

