-- ==== Sys2Proof/Machine/Crypto.lean ====
section
/-! DEFINITION. The checks of R108, R126 and R129: CRC-32 of IEEE 802.3, CRC-8 of the debug frame, SHA-256 and ECDSA
over P-256, in plain arithmetic. -/

namespace Sys2Proof.Machine

/-- One bit of the reflected CRC-32 (polynomial 0x04C1_1DB7 reflected is 0xEDB8_8320). -/
def crc32Bit (c : Word) : Word := if c.getLsbD 0 then (c >>> 1) ^^^ 0xEDB88320 else c >>> 1

/-- One byte of the CRC-32. -/
def crc32Byte (c : Word) (b : Byte) : Word :=
  crc32Bit (crc32Bit (crc32Bit (crc32Bit (crc32Bit (crc32Bit (crc32Bit (crc32Bit (c ^^^ b.zeroExtend 32))))))))

/-- R108: CRC-32, initial value and final XOR 0xFFFF_FFFF. -/
def crc32 (bs : List Byte) : Word := bs.foldl crc32Byte 0xFFFFFFFF ^^^ 0xFFFFFFFF

/-- One bit of the CRC-8 with polynomial 0x07. -/
def crc8Bit (c : Byte) : Byte := if c.getLsbD 7 then (c <<< 1) ^^^ 0x07 else c <<< 1

/-- One byte of the CRC-8. -/
def crc8Byte (c b : Byte) : Byte :=
  crc8Bit (crc8Bit (crc8Bit (crc8Bit (crc8Bit (crc8Bit (crc8Bit (crc8Bit (c ^^^ b))))))))

/-- R126: CRC-8, initial value 0. -/
def crc8 (bs : List Byte) : Byte := bs.foldl crc8Byte 0

/-- The four bytes of a word, most significant first. -/
def beBytes (w : Word) : List Byte :=
  [(w >>> 24).setWidth 8, (w >>> 16).setWidth 8, (w >>> 8).setWidth 8, w.setWidth 8]

/-! ### SHA-256 (FIPS 180-4) -/

/-- The primes below 312, of which there are 64; 17 is the largest divisor to try. -/
def shaPrimes : List Nat :=
  (List.range 312).filter fun n => 2 ≤ n && (List.range 18).all fun d => d < 2 || n % d != 0 || n == d

/-- The largest `r` of at most `k` bits above `acc` with `r ^ e ≤ n`. -/
def rootFrom (e n : Nat) : Nat → Nat → Nat
  | 0, acc => acc
  | k + 1, acc => rootFrom e n k (if (acc + 2 ^ k) ^ e ≤ n then acc + 2 ^ k else acc)

/-- The first 32 bits behind the point of the `e`-th root of `p`. -/
def rootFrac (e p : Nat) : Word := BitVec.ofNat 32 (rootFrom e (p * 2 ^ (32 * e)) 38 0)

/-- FIPS 180-4: the round constants are taken from the cube roots of the first 64 primes. -/
def shaK : List Word := shaPrimes.map (rootFrac 3)

/-- The eight working words. -/
structure Sha where
  a : Word := 0
  b : Word := 0
  c : Word := 0
  d : Word := 0
  e : Word := 0
  f : Word := 0
  g : Word := 0
  h : Word := 0
  deriving DecidableEq, Repr

/-- FIPS 180-4: the words before the first block are taken from the square roots of the first eight primes. -/
def shaStart : Sha :=
  { a := rootFrac 2 2, b := rootFrac 2 3, c := rootFrac 2 5, d := rootFrac 2 7
    e := rootFrac 2 11, f := rootFrac 2 13, g := rootFrac 2 17, h := rootFrac 2 19 }

/-- One round with constant `k` and schedule word `w`. -/
def shaRound (x : Sha) (kw : Word × Word) : Sha :=
  let s1 := x.e.rotateRight 6 ^^^ x.e.rotateRight 11 ^^^ x.e.rotateRight 25
  let ch := (x.e &&& x.f) ^^^ (~~~x.e &&& x.g)
  let t1 := x.h + s1 + ch + kw.1 + kw.2
  let s0 := x.a.rotateRight 2 ^^^ x.a.rotateRight 13 ^^^ x.a.rotateRight 22
  let mj := (x.a &&& x.b) ^^^ (x.a &&& x.c) ^^^ (x.b &&& x.c)
  { a := t1 + (s0 + mj), b := x.a, c := x.b, d := x.c, e := x.d + t1, f := x.e, g := x.f, h := x.g }

/-- The schedule: `n` more words, the words so far newest first. -/
def shaSched : Nat → List Word → List Word
  | 0, ws => ws.reverse
  | n + 1, ws =>
    let w2 := ws.getD 1 0
    let w15 := ws.getD 14 0
    let s1 := w2.rotateRight 17 ^^^ w2.rotateRight 19 ^^^ (w2 >>> 10)
    let s0 := w15.rotateRight 7 ^^^ w15.rotateRight 18 ^^^ (w15 >>> 3)
    shaSched n ((ws.getD 15 0 + s0 + ws.getD 6 0 + s1) :: ws)

/-- One 16-word block. -/
def shaBlock (x : Sha) (ws : List Word) : Sha :=
  let y := (shaK.zip (shaSched 48 ws.reverse)).foldl shaRound x
  { a := x.a + y.a, b := x.b + y.b, c := x.c + y.c, d := x.d + y.d
    e := x.e + y.e, f := x.f + y.f, g := x.g + y.g, h := x.h + y.h }

/-- The words of a list of bytes, most significant byte first. -/
def beWords : List Byte → List Word
  | a :: b :: c :: d :: t => (a ++ b ++ c ++ d) :: beWords t
  | _ => []

/-- All blocks of a padded message. -/
def shaBlocks : Nat → Sha → List Word → Sha
  | 0, x, _ => x
  | n + 1, x, ws => shaBlocks n (shaBlock x (ws.take 16)) (ws.drop 16)

/-- SHA-256 of a message of bytes. -/
def sha256 (m : List Byte) : BitVec 256 :=
  let len := m.length
  let zeros := (119 - len % 64) % 64
  let bitLen : BitVec 64 := BitVec.ofNat 64 (8 * len)
  let p := m ++ [(0x80 : Byte)] ++ List.replicate zeros 0 ++ beBytes (bitLen.extractLsb' 32 32)
    ++ beBytes (bitLen.extractLsb' 0 32)
  let x := shaBlocks (p.length / 64) shaStart (beWords p)
  x.a ++ x.b ++ x.c ++ x.d ++ x.e ++ x.f ++ x.g ++ x.h

/-! ### ECDSA over P-256 (FIPS 186-4) -/

/-- The field prime. -/
def p256P : Nat := 0xffffffff00000001000000000000000000000000ffffffffffffffffffffffff
/-- The group order. -/
def p256N : Nat := 0xffffffff00000000ffffffffffffffffbce6faada7179e84f3b9cac2fc632551
/-- The curve constant b. -/
def p256B : Nat := 0x5ac635d8aa3a93e7b3ebbd55769886bc651d06b0cc53b0f63bce3c3e27d2604b
/-- The base point. -/
def p256G : Nat × Nat :=
  (0x6b17d1f2e12c4247f8bce6e563a440f277037d812deb33a0f4a13945d898c296,
   0x4fe342e2fe1a7f9b8ee7eb4a7c0f9e162bce33576b315ececbb6406837bf51f5)

/-- `b ^ e mod m`, over the `n` low bits of `e`. -/
def powMod (m : Nat) : Nat → Nat → Nat → Nat
  | 0, _, _ => 1
  | n + 1, b, e =>
    let r := powMod m n (b * b % m) (e / 2)
    if e % 2 = 1 then b * r % m else r

/-- The inverse of `x` modulo the prime `m`. -/
def invMod (m x : Nat) : Nat := powMod m 256 (x % m) (m - 2)

/-- Point addition; `none` is the point at infinity. -/
def ecAdd (p q : Option (Nat × Nat)) : Option (Nat × Nat) :=
  match p, q with
  | none, q => q
  | p, none => p
  | some (x1, y1), some (x2, y2) =>
    let m := p256P
    if x1 = x2 && (y1 + y2) % m = 0 then none else
    let l := if x1 = x2 then (3 * x1 * x1 + (m - 3)) * invMod m (2 * y1) % m
      else (y2 + m - y1) * invMod m (x2 + m - x1) % m
    let x3 := (l * l + (m - x1) + (m - x2)) % m
    some (x3, (l * (x1 + m - x3) + (m - y1)) % m)

/-- `e` times a point, over the `n` low bits of `e`. -/
def ecMul : Nat → Nat → Option (Nat × Nat) → Option (Nat × Nat)
  | 0, _, _ => none
  | n + 1, e, p =>
    let r := ecMul n (e / 2) (ecAdd p p)
    if e % 2 = 1 then ecAdd p r else r

/-- R108, R129: the signature `(r, s)` over a digest verifies under the public key `x`, `y`. -/
def ecdsaVerify (key : BitVec 512) (digest : BitVec 256) (sig : BitVec 512) : Bool :=
  let r := (sig.extractLsb' 256 256).toNat
  let t := (sig.extractLsb' 0 256).toNat
  let qx := (key.extractLsb' 256 256).toNat
  let qy := (key.extractLsb' 0 256).toNat
  let n := p256N
  let onCurve := qx < p256P && qy < p256P &&
    qy * qy % p256P == (qx * qx * qx + (p256P - 3) * qx + p256B) % p256P
  if r = 0 || n ≤ r || t = 0 || n ≤ t || !onCurve then false else
  let w := invMod n t
  match ecAdd (ecMul 256 (digest.toNat * w % n) (some p256G)) (ecMul 256 (r * w % n) (some (qx, qy))) with
  | none => false
  | some (x, _) => x % n == r

end Sys2Proof.Machine
end

