-- ==== Sys2Proof/Machine/Boot.lean ====
section
/-! DEFINITION. 05_reset_and_bringup: the image format and its checks (R107 to R109), loading and handover (R110), and
the manifestation of a download (R331, R332). -/

namespace Sys2Proof.Machine

/-- A byte source: the bytes of an image by offset. -/
abbrev Img := Nat → Byte

/-- The little-endian word of an image. -/
def imgWord (r : Img) (a : Nat) : Nat := (r (a + 3) ++ r (a + 2) ++ r (a + 1) ++ r a).toNat

/-- `n` bytes of an image. -/
def imgBytes (r : Img) (a n : Nat) : List Byte := (List.range n).map fun k => r (a + k)

/-- Table 05.7: the sections as DEST, LEN and the offset of their data. -/
def sectionsFrom (r : Img) : Nat → Nat → Nat → List (Nat × Nat × Nat)
  | 0, _, _ => []
  | n + 1, e, d =>
    let len := imgWord r (e + 4)
    (imgWord r e, len, d) :: sectionsFrom r n (e + 16) (d + (len + 3) / 4 * 4)

/-- The sections of an image. -/
def sections (r : Img) : List (Nat × Nat × Nat) :=
  let n := imgWord r 0x10
  sectionsFrom r n 64 (64 + 16 * n)

/-- The offset behind the last section's data. -/
def bodyEnd (r : Img) : Nat :=
  (sections r).foldl (fun _ p => p.2.2 + (p.2.1 + 3) / 4 * 4) (64 + 16 * imgWord r 0x10)

/-- FLAGS.SIGNED. -/
def imgSigned (r : Img) : Bool := imgWord r 0x08 == 1

/-- The image has `n` bytes of zero from `a`. -/
def imgZero (r : Img) (a n : Nat) : Bool := (imgBytes r a n).all (· == 0)

/-- Check 4 of Table 05.8; `given` is the length named from outside. DESIGN CHOICE: the check also takes IMAGE_LEN to be the
sum of the image's parts (R108) and the length given, for which the spec names no check (assumption log 31). -/
def imgSizes (r : Img) (given : Option Nat) : Bool :=
  let len := imgWord r 0x0C
  let n := imgWord r 0x10
  decide (128 ≤ len) && decide (len ≤ 524288) && len % 4 == 0 && decide (1 ≤ n) && decide (n ≤ 16)
    && decide (imgWord r 0x08 ≤ 1) && imgZero r 0x1C 4 && imgZero r 0x28 24
    && (List.range n).all (fun k => imgZero r (64 + 16 * k + 8) 8)
    && len == bodyEnd r + (if imgSigned r then 64 else 0)
    && (match given with | some g => g == len | none => true)

/-- Table 05.7: a section's place. -/
def sectionOk (dest len : Nat) : Bool :=
  dest % 4 == 0 && decide (4 ≤ len) && len % 4 == 0 &&
  (match memUnit dest with
   | some u => (decide (u ≤ 15) || u == 17) && decide (dest + len ≤ (unitRange u).1 + (unitRange u).2)
   | none => false)

/-- Check 5 of Table 05.8. -/
def imgPlaces (r : Img) : Bool :=
  (sections r).all (fun p => sectionOk p.1 p.2.1)
    && (let e := imgWord r 0x14; e % 4 == 0 && decide (0x800000 ≤ e) && decide (e < 0x880000))

/-- The customer boot key in force, 0 where unset. -/
def customerKey (s : State) : BitVec 512 :=
  (List.range 16).foldl (fun k j => (k <<< 32) ||| (smGet 0 (0x40 + j) s.lcy.keyLoad).setWidth 512) 0

/-- R124: the customer boot key is set: all 16 words have been written since the last erase. -/
def keySet (s : State) : Bool := s.lcy.keyMask == 0xFFFF

/-- R107: a customer boot key is in force. -/
def keyInForce (s : State) : Bool := s.lcy.keyLoadMask == 0xFFFF

/-- R124: a fuse map load puts the customer boot key in force. -/
def loadKeys (s : State) : State := { s with lcy.keyLoad := s.lcy.keyWords, lcy.keyLoadMask := s.lcy.keyMask }

/-- R108: the signature of an image verifies under `key`. -/
def imgVerifies (r : Img) (key : BitVec 512) : Bool :=
  let len := imgWord r 0x0C
  let sig := (imgBytes r (len - 64) 64).foldl (fun (v : BitVec 512) b => (v <<< 8) ||| b.setWidth 512) 0
  ecdsaVerify key (sha256 (imgBytes r 0 (len - 64))) sig

/-- Check 9 of Table 05.8 in a life-cycle state. -/
def imgTrusted (r : Img) (l : Life) (s : State) : Bool :=
  match l with
  | .develop => !imgSigned r || !keyInForce s || imgVerifies r (customerKey s)
  | .ret => imgVerifies r Config.vastalekKey
  | _ => imgVerifies r (customerKey s)

/-- R109, Table 05.8: the first failed check, as status code and sub-reason, in life-cycle state `l`; `src`: the source
answers. -/
def checkImage (r : Img) (src : Bool) (given : Option Nat) (l : Life) (s : State) : Option (Nat × Nat) :=
  if !src then some (0x9, 0x8)
  else if imgWord r 0 != 0xB0A79440 || imgWord r 4 != 1 then some (0x2, 0x1)
  else if BitVec.ofNat 32 (imgWord r 0x20) != crc32 (imgBytes r 0 0x20) then some (0xB, 0x2)
  else if !imgSizes r given then some (0x3, 0x9)
  else if !imgPlaces r then some (0x3, 0x3)
  else if imgWord r 0x18 != 0 && imgWord r 0x18 != (Config.param 1).toNat then some (0xE, 0x4)
  else if l != .develop && !imgSigned r then some (0xA, 0x5)
  else if BitVec.ofNat 32 (imgWord r 0x24) != crc32 (imgBytes r 64 (bodyEnd r - 64)) then some (0xB, 0x6)
  else if !imgTrusted r l s then some (0xB, 0x7)
  else none

/-- The image in memory from `a`; a Glacier word comes from the write queue if it waits there (R279), and one with an
uncorrectable error is answered with an error response (R282): what is read is an open value (assumption log 48). -/
def imgAt (a : Nat) (s : State) : Img := fun k =>
  let w := (a + k) / 4 * 4
  let v : Word := match glQueued w s with
    | some v => v
    | none => if smGet false w s.mem.glBad then Config.freeWord ((s.free + 1) * 2 ^ 32 + w) else wordAt w s
  (v >>> (8 * ((a + k) % 4))).setWidth 8

/-- R278, R282: the read of an image from `a` in a Glacier slot, its first IMAGE_LEN bytes, meets the words with uncorrectable
errors that lie in it. -/
def imgEcc (a : Nat) (s : State) : State :=
  let len := imgWord (imgAt a s) 0x0C
  let inSlot (x : Nat) : Bool := a ≤ x && x < a + (if 64 ≤ len ∧ len ≤ 0x80000 then len else 64) && x % 4 == 0
  (s.mem.glBad.filter fun p => inSlot p.1).foldl (fun t p => (glRead p.1 .clean t).2) s

/-- The image that a list of bytes holds. -/
def imgOf (bs : List Byte) : Img := fun k => bs.getD k 0

/-- R109: the sections are loaded. -/
def loadSections (r : Img) (s : State) : State :=
  (sections r).foldl (fun t p => setBytes p.1 (imgBytes r p.2.2 p.2.1) t) s

/-- R109: a check after loading failed: every bank written is zeroed. -/
def wipeSections (r : Img) (s : State) : State :=
  (sections r).foldl (fun t p =>
    match memUnit p.1 with
    | some u => zeroRange (unitRange u).1 ((unitRange u).1 + (unitRange u).2) t
    | none => t) s

/-- R109: a failed check is recorded in RST.BOOT_STATUS; checks 8 and 9 come after loading. -/
def bootError (r : Img) (e : Nat × Nat) (s : State) : State :=
  let s := { s with rst.lastErr := BitVec.ofNat 8 e.1, rst.errSub := BitVec.ofNat 4 e.2 }
  if e.2 == 6 || e.2 == 7 then wipeSections r s else s

/-- R110: the steward starts at ENTRY and the frame divider starts. -/
def handover (r : Img) (path : BitVec 2) (slot fallback : Bool) (s : State) : State :=
  let s := loadSections r s
  { s with
    rst.stage := .running, rst.path := path, rst.slot := slot, rst.fallback := fallback, rst.handedOver := true
    rst.bootDone := false, rst.fallbackDue := fallback
    stw := { regs := { pc := (imgWord r 0x14 - 0x800000) / 4 } } }

/-- R110: the boot ROM waits for an image from the host. -/
def waitHost (s : State) : State := { s with rst.stage := .waitHost }

/-- R110: an image that the host has placed in the staging area, `len` bytes long, is checked. -/
def bootHost (len : Nat) (s : State) : State :=
  let r := imgAt 0x1000000 s
  match checkImage r true (some len) s.lcy.shadow s with
  | some e => waitHost (bootError r e s)
  | none => handover r 2 false s.rst.fallback s

/-- R110: the image slot's check from the Glacier store; `ok`: the slot is readable. -/
def bootSlot (slot : Bool) (ok : Bool) (s : State) : Img × Option (Nat × Nat) :=
  let r := imgAt (if slot then 0x2080000 else 0x2000000) s
  (r, checkImage r ok none s.lcy.shadow s)

/-- R110: page `k` of the image comes from target address 0x50 + `k`. -/
def eepromPage (e : EepromRead) (k : Nat) : Option (List Byte) :=
  (e.pages.find? (·.1 == BitVec.ofNat 7 (0x50 + k))).map (·.2)

/-- R110: the image as the EEPROM's pages of 64 KiB give it. -/
def eepromImg (e : EepromRead) : Img := fun a => ((eepromPage e (a / 0x10000)).getD []).getD (a % 0x10000) 0

/-- R110, check 1: an attempt at the header is answered, and every page that the image takes. -/
def eepromAnswers (e : EepromRead) : Bool :=
  decide (e.failed.val < 3) && (eepromPage e 0).isSome
    && (List.range ((min 524288 (imgWord (eepromImg e) 0x0C) + 0xFFFF) / 0x10000)).all fun k => (eepromPage e k).isSome

/-- R110, R152: the attempts at the header, each after a bus clear. -/
def eepromAttempts (e : EepromRead) (s : State) : State :=
  let n := min 3 (e.failed.val + 1)
  (List.range n).foldl (fun t _ => raise 0x4B7 t) { s with rst.attempts := n, twc.clearClocks := e.clocks.val }

/-- R109, R110: the boot ROM finishes with the path that the straps chose: for the Glacier store whether each slot is
readable; for the EEPROM what it met there. DESIGN CHOICE: it may finish while STAGE still reads READ, and HANDOVER lasts no
step (assumption log 31). -/
def execImageCheckComplete (aOk bOk : Bool) (eeprom : EepromRead) (s : State) : Out :=
  .next (
    if !(live s && (s.rst.stage == .read || s.rst.stage == .check)) then s else
    if s.rst.boot == 0 then
      let s := imgEcc 0x2000000 s
      match bootSlot false aOk s with
      | (r, none) => handover r 0 false false s
      | (r, some e) =>
        let s := imgEcc 0x2080000 (bootError r e s)
        match bootSlot true bOk s with
        | (r, none) => handover r 0 true true s
        | (r, some e) => waitHost { bootError r e s with rst.fallback := true }
    else
      let r := eepromImg eeprom
      let s := eepromAttempts eeprom s
      match checkImage r (eepromAnswers eeprom) none s.lcy.shadow s with
      | none => handover r 1 false false s
      | some e => waitHost { bootError r e s with rst.fallback := true })

/-- R110: in WAIT_HOST a doorbell submits the staged image; its IMAGE_LEN stands in the first word of MAILBOX. -/
def bootSubmit (s : State) : State :=
  let b (k : Nat) : Byte := smGet 0 k s.win.mailbox
  if live s && s.rst.stage == .waitHost then bootHost (b 3 ++ b 2 ++ b 1 ++ b 0 : Word).toNat s else s

/-- R110: the staged boot image is submitted. -/
def execHostImageSubmit (s : State) : Out := .next (bootSubmit s)

/-- R331, R332: manifestation: the boot ROM's download is checked and, passed, runs; a download into a Glacier slot is
checked by checks 2 to 9. DESIGN CHOICE: the boot ROM takes the bytes downloaded for the length given from outside
(`imgSizes`, assumption log 31). -/
def execDfuManifest (s : State) : Out :=
  .next (
    if s.usb.dfu != .manifestSync then s else
    match s.usb.dfuMode with
    | .off => s
    | .bootRom =>
      let r := imgAt 0x1000000 s
      match checkImage r true (some s.usb.dfuLen) s.lcy.shadow s with
      | some e => dfuFail (dfuStatusOf e.1) e.1 (bootError r e s)
      | none => handover r 3 false false (usbUnplug { dfuGo .manifest s with usb.dfuCode := 0 })
    | .runTime =>
      let s := imgEcc (dfuBase s) s
      match checkImage (imgAt (dfuBase s) s) true none s.lcy.shadow s with
      | some e => dfuFail (dfuStatusOf e.1) e.1 s
      | none => dfuGo .dfuIdle { s with usb.dfuCode := 0, usb.dfuStatus := 0 })

/-- RST.BOOT_STATUS.STAGE. -/
def stageCode : Stage → Nat
  | .romStart => 0 | .read => 1 | .check => 2 | .waitHost => 3 | .waitDfu => 4 | .handover => 5 | .running => 6
  | .void => 7 | .fabWait => 8

/-- RST.BOOT_STATUS (Table 05.17). -/
def bootStatus (s : State) : Word :=
  BitVec.ofNat 32 (s.rst.lastErr.toNat * 2 ^ 24 + s.rst.errSub.toNat * 2 ^ 20 + b2n s.rst.fallback * 2 ^ 11
    + b2n s.rst.slot * 2 ^ 10 + s.rst.path.toNat * 2 ^ 8 + stageCode s.rst.stage)

end Sys2Proof.Machine
end

