-- ==== Sys2Proof/Machine/Ring.lean ====
section
/-! DEFINITION. 17_rholde_ring: frames, the control channel, training, join and leave, sends. What a READ or WRITE
does through the system port is in RingMsg.lean. -/

namespace Sys2Proof.Machine

/-! ### Messages and frames (R345, R352) -/

/-- Table 17.3: a control word. -/
def ctlWord (m : RingMsg) : BitVec 64 :=
  m.typ ++ BitVec.ofBool m.rly ++ m.dst ++ m.src ++ m.seq ++ m.arg ++ m.data

/-- The control word of a 64-bit value. -/
def ctlOf (w : BitVec 64) : RingMsg :=
  { typ := w.extractLsb' 60 4, rly := w.getLsbD 59, dst := w.extractLsb' 52 7, src := w.extractLsb' 45 7
    seq := w.extractLsb' 40 5, arg := w.extractLsb' 32 8, data := w.extractLsb' 0 32 }

/-- The bytes of a bit vector of `n` bytes, most significant first. -/
def beBytesOf {w : Nat} (n : Nat) (x : BitVec w) : List Byte :=
  (List.range n).map fun k => (x >>> (8 * (n - 1 - k))).setWidth 8

/-- Table 17.1: symbols 2 to 1221. -/
def frameBytes (f : RingFrame) : List Byte :=
  beBytesOf 2 f.no ++ [f.tag, BitVec.ofNat 8 (b2n f.join + 2 * b2n f.call)] ++ beBytesOf 8 (ctlWord f.ctl)
    ++ beBytesOf 8 f.present ++ beBytesOf 48 f.written
    ++ (List.range 384).flatMap fun k => beBytesOf 3 (smGet 0 k f.slots >>> 8)

/-- R108: the CRC of a frame. -/
def frameCrc (f : RingFrame) : Word := crc32 (frameBytes f)

/-- The frame passes its CRC. -/
def frameGood (f : Option RingFrame) : Bool := match f with | some f => f.crc == frameCrc f | none => false

/-- R346: a stomped frame. -/
def frameStomped (f : Option RingFrame) : Bool := match f with | some f => f.crc == ~~~frameCrc f | none => false

/-- Message types of Table 17.4. -/
def tAck : BitVec 4 := 1
/-- HELLO. -/
def tHello : BitVec 4 := 2
/-- ASSIGN. -/
def tAssign : BitVec 4 := 3
/-- LEAVE. -/
def tLeave : BitVec 4 := 4
/-- EJECT. -/
def tEject : BitVec 4 := 5
/-- CMD_DATA. -/
def tCmdData : BitVec 4 := 6
/-- CMD_RESP. -/
def tCmdResp : BitVec 4 := 7
/-- SET_ADDR. -/
def tSetAddr : BitVec 4 := 8
/-- READ. -/
def tRead : BitVec 4 := 9
/-- RESULT. -/
def tResult : BitVec 4 := 0xA
/-- WRITE. -/
def tWrite : BitVec 4 := 0xB

/-- DBG_UID0. -/
def uid0 : Word := Config.deviceUid.setWidth 32

/-- The own address: 0 at the master. -/
def ringSelf (s : State) : BitVec 7 := if s.ring.role then 0 else s.ring.addr

/-- Queues an own message, from the own address. -/
def ringPost (m : RingMsg) (s : State) : State :=
  { s with ring.outbox := s.ring.outbox ++ [{ m with rly := false, src := ringSelf s }] }

/-- The first waiting message of type `t`, and the state without it. -/
def ringTake (t : BitVec 4) (s : State) : Option RingMsg × State :=
  let m := s.ring.inbox.find? (·.typ == t)
  (m, match m with | some m => { s with ring.inbox := s.ring.inbox.erase m } | none => s)

/-! ### Sends (R354, R355) -/

/-- R354: a send ends. -/
def sendEnd (code : Nat) (data : Word) (s : State) : State :=
  match s.ring.send with
  | none => s
  | some r =>
    raise 0x457 { s with
      ring.send := none, ring.sendBusy := false, ring.sendValid := true, ring.sendCode := code
      ring.sendData := data
      ring.outbox := s.ring.outbox.filter fun m => !(m.dst == r.dst && m.seq == r.seq && m.typ != tAck
        && m.typ != tResult && m.typ != tCmdResp) }

/-- The messages of one attempt. -/
def sendMsgs (r : RingSend) : List RingMsg :=
  match r.op with
  | .block => r.words.zipIdx.map fun p =>
      { typ := tCmdData, dst := r.dst, seq := r.seq
        arg := BitVec.ofNat 8 (b2n (p.2 + 1 == r.words.length) * 128 + p.2), data := p.1 }
  | .eject => [{ typ := tEject, dst := r.dst, seq := r.seq, arg := 3 }]
  | _ =>
    if !r.addressed then [{ typ := tSetAddr, dst := r.dst, seq := r.seq, data := r.addr }]
    else if r.op == .write then [{ typ := tWrite, dst := r.dst, seq := r.seq, data := r.data }]
    else [{ typ := tRead, dst := r.dst, seq := r.seq }]

/-- R354: queues one attempt, in place of what is left of the attempt before. -/
def sendGo (r : RingSend) (s : State) : State :=
  let s := { s with ring.outbox := s.ring.outbox.filter fun m => !(m.dst == r.dst && m.seq == r.seq
    && (m.typ == tCmdData || m.typ == tSetAddr || m.typ == tRead || m.typ == tWrite || m.typ == tEject)) }
  (sendMsgs r).foldl (fun t m => ringPost m t) { s with ring.send := some r }

/-- R355: a new block or access takes the next sequence number. -/
def sendNew (r : RingSend) (s : State) : State :=
  let q := s.ring.seq + 1
  sendGo { r with seq := q, tries := 1 } { s with ring.seq := q }

/-- R354: another attempt, or the end with `code`. -/
def sendRetry (code : Nat) (r : RingSend) (s : State) : State :=
  if r.tries < 3 then sendGo { r with tries := r.tries + 1 } s else sendEnd code 0 s

/-- R354: RING.SEND takes effect: the record's four words and, for BLOCK, the words of the block it names. -/
def ringSend (op : SendOp) (dst : BitVec 7) (addr data : Word) (words : List Word) (s : State) : State :=
  sendNew { op := op, dst := dst, addr := addr, data := data, words := words }
    { s with ring.sendBusy := true, ring.sendValid := false }

/-- R354: no reply within CTRL_TIMEOUT. -/
def execRingSendTimeout (s : State) : Out :=
  .next (match s.ring.send with | some r => sendRetry 9 r s | none => s)

/-- R353, R354: an ACK. -/
def execRingAck (s : State) : Out :=
  .next (
    match ringTake tAck s with
    | (none, s) => s
    | (some m, s) =>
      match s.ring.send with
      | some r =>
        if r.op != .block || m.src != r.dst || m.seq != r.seq then s
        else match m.arg.toNat with
          | 0 => { s with ring.send := some { r with acked := true } }
          | 1 => if 2 ≤ r.busies then sendEnd 4 0 s else sendRetry 9 { r with busies := r.busies + 1 } s
          | _ => sendRetry 9 r s
      | none => s)

/-- R354: the response to a block this node sent. -/
def execCmdResp (s : State) : Out :=
  .next (
    match ringTake tCmdResp s with
    | (none, s) => s
    | (some m, s) =>
      match s.ring.send with
      | some r => if r.op == .block && m.src == r.dst && m.seq == r.seq then sendEnd 0 m.data s else s
      | none => s)

/-- R354: the RESULT of an access this node sent. -/
def execRingResult (s : State) : Out :=
  .next (
    match ringTake tResult s with
    | (none, s) => s
    | (some m, s) =>
      match s.ring.send with
      | some r =>
        if r.op == .block || r.op == .eject || m.src != r.dst || m.seq != r.seq then s
        else if m.arg == 0 && !r.addressed then sendNew { r with addressed := true } s
        else sendEnd m.arg.toNat (if m.arg == 0 then m.data else 0) s
      | none => s)

/-! ### Entering and leaving TRAINED (R355, R356, R361, R365) -/

/-- TRAIN_FAIL is written. -/
def trainFail (n : Nat) (s : State) : State := raise 0x452 { s with ring.trainFail := n }

/-- R370, R83: TRAINED is entered, the queues half full. -/
def ringTrained (s : State) : State :=
  raise 0x450 { recentre 5 s with ring.state := .trained, ring.lastBlk := [], ring.lastAcc := [], ring.parts := [] }

/-- R504: the ring mailbox when TRAINED is left: a block not yet committed is discarded without effect, the response of
a committed one is not sent, a send ends with ABSENT. -/
def ringDropBlocks (s : State) : State :=
  sendEnd 0xE 0 (abandonJobs (· == .ring) { s with
    cmd.ringBlk := none, cmd.ringMbx := {}, ring.blkFrom := none })

/-- R178, R355, R365: the state changes to `st`; leaving TRAINED ends claims and stored values. -/
def ringTo (st : RingState) (s : State) : State :=
  let was := s.ring.state == .trained
  let s := { s with ring.state := st }
  if was && st != .trained then
    ringDropBlocks (dropClaims .ring 1 (raise 0x451 { s with
      ring.lastBlk := [], ring.lastAcc := [], ring.parts := [], ring.leaving := false, ring.leaveSent := false
      ring.outbox := [], ring.relay := [], ring.inbox := [] }))
  else s

/-- R356, R359: the node goes OFF or, its address given up, back to SEEK. -/
def ringDown (st : RingState) (s : State) : State :=
  let s := ringTo st s
  { s with
    ring.addr := 0x7E, ring.helloSent := false, ring.leaving := false, ring.leaveSent := false, ring.clean := 0
    ring.formed := 0, ring.formDue := false, ring.callLeft := 0, ring.returned := [], ring.assign := none
    ring.outbox := [], ring.relay := [], ring.inbox := [] }

/-- R351: a frame as a receiver of slots sees it. -/
def ringReceive (f : Option RingFrame) (s : State) : State :=
  match f with
  | some f =>
    if frameGood (some f) then { s with ring.rx := mapFrame (rxSample 24) f.slots, ring.badRun := 0 } else ringHold s
  | none => ringHold s
where
  /-- A bad frame: the values are held, from the fifth on zero. -/
  ringHold (s : State) : State :=
    if s.ring.badRun < 4 then
      { s with ring.badRun := s.ring.badRun + 1, ring.held := satAdd 0xFFFF s.ring.held 1 }
    else { s with ring.badRun := 5, ring.rx := [] }

/-- R363: the error counts of one frame. -/
def ringCount (f : Option RingFrame) (codeErrs : Nat) (s : State) : State :=
  let stomp := frameStomped f
  let crc := f.isSome && !frameGood f && !stomp
  raiseIf (0 < codeErrs || crc) 0x453 { s with
    ring.codeErrs := satAdd 0xFFFF s.ring.codeErrs codeErrs
    ring.crcErrs := satAdd 0xFFFF s.ring.crcErrs (b2n crc)
    ring.stomped := satAdd 0xFF s.ring.stomped (b2n stomp) }

/-- R366: the ring slots this node transmits: those routed to, that pass. -/
def txSlots (s : State) : List Nat :=
  (List.range 384).filter fun k => (readsOf (4, k) s.strm.s).isSome && chPasses 5 k true s

/-- R347: the slots and WRITTEN map of a frame with this node's slots inserted, and how many collided. -/
def insertSlots (f : RingFrame) (s : State) : RingFrame × Nat :=
  (txSlots s).foldl (fun p k =>
    ({ p.1 with slots := smSet 0 k (smGet 0 k (portQ 5 s).sent) p.1.slots, written := setBit p.1.written k true },
     p.2 + b2n (f.written.getLsbD k))) (f, 0)

/-- R352: a message for this node in a good frame waits to be acted on; a reserved type is counted. -/
def ringDeliver (m : RingMsg) (s : State) : State :=
  if 0xC ≤ m.typ.toNat then { s with ring.badMsg := satAdd 0xFF s.ring.badMsg 1 }
  else { s with ring.inbox := s.ring.inbox ++ [m] }

/-- R352, R354: an own message came back undelivered. -/
def ringReturned (m : RingMsg) (s : State) : State :=
  let s := { s with ring.undelivered := satAdd 0xFF s.ring.undelivered 1 }
  match s.ring.send with
  | some r => if m.dst == r.dst && m.seq == r.seq && m.typ != tAck && m.typ != tResult && m.typ != tCmdResp then
      sendEnd 0xE 0 s else s
  | none => s

/-- R352: an own message goes out in an EMPTY control word. -/
def ringInsert (s : State) : RingMsg × State :=
  match s.ring.outbox with
  | [] =>
    if s.ring.leaving && !s.ring.leaveSent then
      ({ typ := tLeave, dst := 0, src := ringSelf s }, { s with ring.leaveSent := true })
    else ({}, s)
  | m :: r =>
    let s := { s with ring.outbox := r }
    (m, match s.ring.send with
      | some q => if q.op == .eject && m.typ == tEject && m.seq == q.seq then sendEnd 0 0 s else s
      | none => s)

/-- R352, R357: the control word of a passing frame at a TRAINED node. -/
def forwardCtl (f : RingFrame) (good : Bool) (s : State) : RingMsg × State :=
  let m := f.ctl
  if m.typ == 0 then (if s.ring.afterJoin then (m, s) else ringInsert s)
  else if m.dst == s.ring.addr then ({}, if good then ringDeliver m s else s)
  else if m.rly && m.src == s.ring.addr then ({}, if good then ringReturned m s else s)
  else if m.dst == 0x7F then (m, if good then ringDeliver m s else s)
  else (m, s)

/-- R357: the control word of a passing frame at a JOINING node. -/
def joiningCtl (f : RingFrame) (good : Bool) (s : State) : RingMsg × State :=
  let m := f.ctl
  if !s.ring.helloSent then
    if m.typ == 0 then
      ({ typ := tHello, dst := 0, src := 0x7E, data := uid0 }, { s with ring.helloSent := true })
    else (m, { s with ring.state := .wait })
  else if m.dst == 0x7E && ((m.typ == tAssign && m.data == uid0) || m.typ == tEject) then
    ({}, if good then ringDeliver m s else s)
  else if m.dst == 0x7F && m.typ == tEject then (m, if good then ringDeliver m s else s)
  else (m, s)

/-- R347: what an open node sends on: its own fields changed, the CRC recomputed and inverted if the frame was bad. -/
def ringSendOn (f : RingFrame) (good : Bool) (s : State) : State :=
  let crc := frameCrc f
  { s with ring.sent := some { f with crc := if good then crc else ~~~crc } }

/-- R347: a frame passes through a TRAINED node. -/
def forwardTrained (f : RingFrame) (s : State) : State :=
  let good := frameGood (some f)
  let (m, s) := forwardCtl f good s
  let (g, n) := insertSlots { f with ctl := m, present := setBit f.present s.ring.addr.toNat true } s
  let s := raiseIf (n != 0) 0x459 { s with ring.collides := satAdd 0xFF s.ring.collides n }
  ringSendOn g good s

/-- R347, R351, R352, R356, R363: a frame passes a node that is not the master; `f` is none where no frame was
recovered. A node with its bypass closed changes nothing of it. -/
def execRingFrameForward (f : Option RingFrame) (codeErrs : Nat) (s : State) : Out :=
  .next (
    if !live s || s.ring.role || s.ring.state == .off || s.ring.state == .seek then s else
    let good := frameGood f
    let after := s.ring.leaveSent
    let s := ringReceive f (ringCount f codeErrs { s with ring.sent := none })
    let s := match f with
      | some f => if good then { s with
          ring.present := f.present, ring.callSeen := s.ring.callSeen || f.call } else s
      | none => s
    let s := match s.ring.state, f with
      | .check, _ =>
        if good && codeErrs == 0 then { s with ring.clean := min 240 (s.ring.clean + 1) }
        else trainFail 2 { s with ring.clean := 0 }
      | .joining, some f =>
        let (m, s) := joiningCtl f good s
        ringSendOn { f with ctl := m } good s
      | .trained, some f => forwardTrained f s
      | _, _ => s
    let s := match f with
      | some f => { s with ring.afterJoin := f.join }
      | none => { s with ring.afterJoin := false }
    if after && s.ring.state == .trained then ringDown .off s else s)

/-! ### The master's frames (R349, R350, R357, R358) -/

/-- The master originates frames. -/
def ringOriginates (s : State) : Bool := s.ring.role && (s.ring.state == .trained || s.ring.state == .forming)

/-- R349, R352, R357: the control word of the frame the master originates. -/
def masterCtl (s : State) : RingMsg × State :=
  if s.ring.leaving && !s.ring.leaveSent then
    ({ typ := tEject, dst := 0x7F, src := 0, arg := 1 }, { s with ring.leaveSent := true })
  else if s.ring.helloNext then ({}, { s with ring.helloNext := false })
  else match s.ring.assign with
    | some m => (m, { s with ring.assign := none })
    | none =>
      match s.ring.relay with
      | m :: r => ({ m with rly := true }, { s with ring.relay := r })
      | [] => ringInsert s

/-- R349 step 5: the slots relayed from returned frame `no`. Where that frame was bad, R349 has every slot zero and R351 has the
master hold the last good values for relay too, four frames long: which of the two is open (assumption log 49). -/
def relayed (no : BitVec 16) (s : State) : SMap Word × State :=
  let written (w : BitVec 384) (m : SMap Word) : SMap Word := m.filter fun p => w.getLsbD p.1
  if s.ring.loopLong then ([], s) else
  match s.ring.returned.find? (·.1 == no), s.ring.returned.head? with
  | some (_, w, m), _ => (written w m, s)
  | none, some (_, w, m) =>
    if s.ring.badRun = 0 ∨ 5 ≤ s.ring.badRun then ([], s) else
    let (x, s) := takeFree s
    (if x.getLsbD 0 then written w m else [], s)
  | none, none => ([], s)

/-- R349: the master originates one frame; after its EJECT it stops at the end of the next frame (R360). -/
def execRingFrameOriginate (s : State) : Out :=
  .next (
    if !live s || !ringOriginates s then s else
    let after := s.ring.leaveSent
    let no := s.ring.frameNo + 1
    let call := 0 < s.ring.callLeft
    let since := min 384 (s.ring.sinceJoin + 1)
    let join := fld 0x15 0x003 s == 1 && since == 384 && !call
    let (m, s) := masterCtl s
    let (passed, s) := relayed (no - 2) s
    let slots := (txSlots s).foldl (fun t k => smSet 0 k (smGet 0 k (portQ 5 s).sent) t) passed
    let f : RingFrame := { no := no, tag := uid0.setWidth 8, join := join, call := call, ctl := m, present := 1
                           written := 0, slots := slots }
    let s := { s with
      ring.frameNo := no, ring.callLeft := s.ring.callLeft - 1
      ring.sinceJoin := if join then 0 else since, ring.helloNext := join
      ring.sent := some { f with crc := frameCrc f } }
    if after then ringDown .off s else s)

/-- R365: the PRESENT bits of a good returned frame, and the runs of those missing. -/
def ringPresent (f : RingFrame) (s : State) : State :=
  { s with
    ring.present := s.ring.present ||| f.present
    ring.missing := (List.range 64).foldl (fun m a =>
      smSet 0 a (if s.ring.present.getLsbD a && !f.present.getLsbD a then min 4 (smGet 0 a s.ring.missing + 1) else 0) m)
      [] }

/-- R352: the control word that comes back to the master in a good frame. -/
def masterReturn (m : RingMsg) (s : State) : State :=
  if m.typ == 0 || m.dst == 0x7F then s
  else if m.dst == 0 then ringDeliver m s
  else if m.rly then (if m.src == 0 then ringReturned m s else s)
  else { s with ring.relay := s.ring.relay ++ [m] }

/-- R350: the loop delay in symbol times; 40 µs are 3,932 of them. -/
def ringLoop (n : Nat) (s : State) : State :=
  let s := { s with ring.loop := min n 0xFFFF }
  if 3932 < n then
    let s := { s with ring.shortLoop := 0 }
    if s.ring.loopLong then s else trainFail 7 { s with ring.loopLong := true }
  else
    let k := min 48 (s.ring.shortLoop + 1)
    { s with ring.shortLoop := k, ring.loopLong := s.ring.loopLong && k != 48 }

/-- R360: another master's tag has come back. -/
def ringConflict (s : State) : State := raise 0x458 (trainFail 6 (ringDown .conflict s))

/-- R350, R351, R352, R360, R363, R365: a frame returns to the master; `f` is none where no SOF returned. -/
def execRingFrameReturn (f : Option RingFrame) (loopSymbols codeErrs : Nat) (s : State) : Out :=
  .next (
    if !live s || !ringOriginates s then s else
    let good := frameGood f
    let s := ringReceive f (ringCount f codeErrs s)
    match f with
    | none => { s with ring.formed := 0, ring.shortLoop := 0 }
    | some f =>
      let s := ringLoop loopSymbols { s with ring.broken := false }
      if !good then { s with ring.formed := 0 }
      else if f.tag != uid0.setWidth 8 then ringConflict s
      else
        let s := { s with
          ring.formed := if s.ring.state == .forming then min 48 (s.ring.formed + 1) else 0
          ring.returned := ((f.no, f.written, f.slots) :: s.ring.returned).take 4 }
        masterReturn f.ctl (ringPresent f s))

/-! ### Training, join and leave (R356 to R360) -/

/-- R356, R360: RING.EN = 1 takes effect at a tick; the queues begin half full and the bank has no lock yet (R83, R85). -/
def ringStart (s : State) : State :=
  if s.ring.state == .off then
    let s := recentre 5 s
    { s with
      clk.trackLock := setBit s.clk.trackLock 5 false
      ring.state := .seek, ring.role := fld 0x15 0x002 s == 1, ring.clean := 0, ring.formed := 0
      ring.formDue := false, ring.broken := false, ring.loopLong := false, ring.leaving := false
      ring.leaveSent := false, ring.helloSent := false }
  else s

/-- R359, R360: RING.EN = 0 takes effect at a tick: a TRAINED node sends LEAVE, a master EJECT 0x1. -/
def ringStop (s : State) : State :=
  if s.ring.state == .off then s
  else if s.ring.state == .trained || (s.ring.role && s.ring.state == .forming) then
    { s with ring.leaving := true }
  else ringDown .off s

/-- R361: a mode other than RUN closes the bypass; a master first sends EJECT 0x1 (R360). -/
def ringModeEntry (s : State) : State :=
  if ringOriginates s then { s with ring.leaving := true }
  else if s.ring.state == .off then s else ringDown .off s

/-- The ring starts again on the return to RUN. -/
def ringRestart (s : State) : State :=
  let s := if s.ring.leaving then ringDown .off s else s
  if fld 0x15 0x001 s == 1 then ringStart s else s

/-- R112, R361: BRESET of RING. -/
def ringBreset (s : State) : State :=
  let s := ringTo .off s
  let s := setPortQ 5 {} (resetFields 0x15 s)
  { s with ring := {}, clk.trackLock := setBit s.clk.trackLock 5 false }

/-- R356, R364: symbol lock, SOF and a good frame; a node that had lost lock goes on in its state, its queues recentred
(R83). -/
def execRingSymbolLock (s : State) : Out :=
  .next (
    if !live s || s.ring.state == .off then s
    else
      let s := if s.ring.lock then s else recentre 5 s
      if s.ring.state == .seek && !s.ring.role then { s with ring.state := .check, ring.lock := true, ring.clean := 0 }
      else { s with ring.lock := true })

/-- R356: 240 consecutive clean frames. -/
def execRingCheckPassed (s : State) : Out :=
  .next (if s.ring.state == .check && s.ring.clean == 240 then { s with ring.state := .wait } else s)

/-- R357: a node in WAIT sees a JOIN frame and opens its bypass. -/
def execRingJoinWindow (s : State) : Out :=
  .next (if s.ring.state == .wait && s.ring.lock then
    { s with ring.state := .joining, ring.helloSent := false } else s)

/-- R356: no ASSIGN within 4 ms; in WAIT, no join window within 20 ms. -/
def execRingJoinTimeout (s : State) : Out :=
  .next (
    match s.ring.state with
    | .joining => trainFail 4 (ringDown .seek s)
    | .wait => trainFail 3 s
    | _ => s)

/-- R357, R358: the lowest free address at the master, 1 to 63. -/
def freeAddr (s : State) : Option Nat := (List.range 64).find? fun a => 1 ≤ a && !s.ring.assigned.getLsbD a

/-- R357, R358: a HELLO reaches the master. -/
def execHello (s : State) : Out :=
  .next (
    match ringTake tHello s with
    | (none, s) => s
    | (some m, s) =>
      if !ringOriginates s then s else
      match freeAddr s with
      | some a =>
        raise 0x454 { s with
          ring.assigned := setBit s.ring.assigned a true
          ring.assign := some { typ := tAssign, dst := 0x7E, src := 0, seq := m.seq, arg := BitVec.ofNat 8 a
                                data := m.data } }
      | none => { s with ring.assign := some { typ := tEject, dst := 0x7E, src := 0, seq := m.seq, arg := 2 } })

/-- R356, R357: ASSIGN that matches the node's UID word. -/
def execAssign (s : State) : Out :=
  .next (
    match ringTake tAssign s with
    | (none, s) => s
    | (some m, s) =>
      if s.ring.state == .joining && m.data == uid0 then
        ringTrained { s with ring.addr := m.arg.setWidth 7 }
      else s)

/-- R359: a LEAVE reaches the master; its address is free again. -/
def execLeave (s : State) : Out :=
  .next (
    match ringTake tLeave s with
    | (none, s) => s
    | (some m, s) =>
      if m.src == 0 then s else
      { s with
        ring.assigned := setBit s.ring.assigned m.src.toNat false
        ring.present := setBit s.ring.present m.src.toNat false
        ring.missing := smSet 0 m.src.toNat 0 s.ring.missing })

/-- R358, R359: an EJECT reaches a node, which closes its bypass. -/
def execEject (s : State) : Out :=
  .next (
    match ringTake tEject s with
    | (none, s) => s
    | (some m, s) =>
      if s.ring.role then s else
      match s.ring.state with
      | .joining => trainFail (if m.arg == 2 then 5 else 8) (ringDown .seek s)
      | .trained => trainFail 8 (ringDown (if s.ring.leaving then .off else .seek) s)
      | _ => s)

/-- R359: a leaving node closes its bypass after 2 ms. -/
def execRingLeaveTimeout (s : State) : Out :=
  .next (if s.ring.leaving && !s.ring.role then ringDown .off s else s)

/-- R364, R75: no SOF where one is due, or symbol lock fails; with CKMODE 0b11 the reference is lost with it. -/
def execRingLockLost (s : State) : Out :=
  .next (
    if s.ring.lock then
      let s := { s with ring.lock := false, ring.lockLosses := satAdd 0xFFFF s.ring.lockLosses 1 }
      if s.rst.ckmode == 3 then refLost s else s
    else s)

/-- R356, R364: lock has not returned within 1 ms. -/
def execRingLockLostTimeout (s : State) : Out :=
  .next (
    if s.ring.lock || s.ring.role then s else
    match s.ring.state with
    | .trained => ringDown .seek s
    | .check | .wait | .joining => trainFail 1 (ringDown .seek s)
    | _ => s)

/-- R360: the master's listen ends; `found`: a valid SOF was seen. -/
def execRingMasterListen (found : Bool) (s : State) : Out :=
  .next (
    if !live s || !s.ring.role || !(s.ring.state == .seek || s.ring.state == .conflict) then s
    else if found then ringConflict s
    else { s with ring.formDue := true })

/-- R360: a master that found no other opens its bypass at the tick. -/
def ringForm (s : State) : State :=
  if s.ring.formDue then
    { recentre 5 s with
      ring.state := .forming, ring.formDue := false, ring.formed := 0, ring.addr := 0, ring.assigned := 1
      ring.present := 0, ring.missing := [], ring.returned := [], ring.sinceJoin := 0, ring.helloNext := false }
  else s

/-- R360: 48 consecutive good returned frames with the own tag. -/
def execRingMasterTrained (s : State) : Out :=
  .next (if s.ring.role && s.ring.state == .forming && s.ring.formed == 48 then ringTrained s else s)

/-- R365: a PRESENT bit has been missing from four consecutive returned frames. -/
def execRingNodeLost (a : Fin 64) (s : State) : Out :=
  .next (
    if ringOriginates s && s.ring.present.getLsbD a && 4 ≤ smGet 0 a s.ring.missing then
      raise 0x455 { s with
        ring.present := setBit s.ring.present a false, ring.missing := smSet 0 a.val 0 s.ring.missing
        ring.assigned := if a.val = 0 then s.ring.assigned else setBit s.ring.assigned a false }
    else s)

/-- R365: no SOF has returned for four frames. -/
def execRingBroken (s : State) : Out :=
  .next (if ringOriginates s && !s.ring.broken then raise 0x456 { s with ring.broken := true } else s)

/-- R365: the ring has not returned within 1 ms. -/
def execRingBrokenTimeout (s : State) : Out :=
  .next (
    if s.ring.role && s.ring.broken && s.ring.state == .trained then
      ringTo .forming { s with ring.formed := 0 }
    else s)

/-- R362, R65, R336: the ring call detector sees a burst: a wake source in every mode; in RUN it sets CALL_SEEN. -/
def execRingCallDetect (s : State) : Out :=
  .next (
    if !live s then s
    else
      let s := usbWakeReason 0x20 s
      wakeFire .ring (if s.sup.modeCur == .run then { s with ring.callSeen := true } else s))

/-- R362: RING.CALL takes effect. -/
def ringCall (s : State) : State := { s with ring.callLeft := 48 }

/-! ### Blocks over the ring (R353, R355) -/

/-- R353: an ACK to the source of `m`. -/
def ringAckTo (m : RingMsg) (arg : BitVec 8) (s : State) : State :=
  ringPost { typ := tAck, dst := m.src, seq := m.seq, arg := arg } s

/-- R353, R355: a complete block of words from the source of `m`. -/
def ringBlock (m : RingMsg) (ws : List Word) (s : State) : State :=
  let s := { s with ring.parts := s.ring.parts.filter (·.1 != m.src) }
  match s.ring.lastBlk.find? (·.1 == m.src) with
  | some (_, q, resp) =>
    if q == m.seq then
      let s := ringAckTo m 0 s
      match resp with
      | some w => ringPost { typ := tCmdResp, dst := m.src, seq := m.seq, data := w } s
      | none => s
    else ringNew s
  | none => ringNew s
where
  /-- A block not seen before. -/
  ringNew (s : State) : State :=
    if s.cmd.ringMbx.busy || s.cmd.ringBlk.isSome || s.lcy.quiet.isSome then ringAckTo m 1 s
    else ringAckTo m 0 { s with
      cmd.ringBlk := some ((List.range 16).map fun k => ws.getD k 0), cmd.ringMbx := { busy := true }
      ring.blkFrom := some (m.src, m.seq)
      ring.lastBlk := (m.src, m.seq, none) :: s.ring.lastBlk.filter (·.1 != m.src) }

/-- R353: one word of a block. -/
def execCmdData (s : State) : Out :=
  .next (
    match ringTake tCmdData s with
    | (none, s) => s
    | (some m, s) =>
      let idx := m.arg.toNat % 16
      let old := match s.ring.parts.find? (·.1 == m.src) with
        | some (_, q, ws) => if q == m.seq then ws else []
        | none => []
      let old := if idx = 0 then [] else old
      let rest := s.ring.parts.filter (·.1 != m.src)
      if idx != old.length then ringAckTo m 2 { s with ring.parts := rest }
      else
        let ws := old ++ [m.data]
        if m.arg.getLsbD 7 then ringBlock m ws s
        else { s with ring.parts := (m.src, m.seq, ws) :: rest })

/-- R353, R355: the response of a block from the ring goes to its source and is kept. -/
def ringRespond (w : Word) (s : State) : State :=
  match s.ring.blkFrom with
  | some (a, q) =>
    ringPost { typ := tCmdResp, dst := a, seq := q, data := w } { s with
      ring.blkFrom := none
      ring.lastBlk := s.ring.lastBlk.map fun p => if p.1 == a && p.2.1 == q then (a, q, some w) else p }
  | none => s

/-! ### Status (R369) -/

/-- The code of Table 17.9. -/
def ringStateCode : RingState → Nat
  | .off => 0 | .seek => 1 | .check => 2 | .wait => 3 | .joining => 4 | .trained => 5 | .forming => 6 | .conflict => 7

/-- R361: the bypass switches are closed. -/
def bypassClosed (s : State) : Bool :=
  match s.ring.state with | .joining | .trained | .forming => false | _ => true

/-- R366: some route names a slot that does not pass. -/
def ringUnconv (s : State) : Bool :=
  s.ring.state != .off && s.strm.s.any fun p =>
    (match p.2.writer with | some (4, k) => !chPasses 5 k false s | _ => false)
      || p.2.readers.any fun e => e.1 == 4 && !chPasses 5 e.2 true s

/-- RING.STATUS. -/
def ringStatus (s : State) : Word :=
  let r := s.ring
  BitVec.ofNat 32 (r.trainFail % 16 * 2 ^ 24 + r.addr.toNat * 2 ^ 17 + b2n (bypassClosed s) * 2 ^ 16
    + b2n r.loopLong * 2 ^ 15 + b2n r.broken * 2 ^ 14 + b2n r.callSeen * 2 ^ 13 + b2n r.lock * 2 ^ 12
    + b2n (ringUnconv s) * 2 ^ 11 + b2n r.role * 2 ^ 8 + ringStateCode r.state)

end Sys2Proof.Machine
end

