-- ==== Sys2Proof/Machine/Reset.lean ====
section
/-! DEFINITION. 05_reset_and_bringup: reset sources, the RST_N filter, bring-up to the release of internal reset; and the
life-cycle transitions with their quiet stop (06_life_cycle_and_debug, R505 to R507). -/

namespace Sys2Proof.Machine

/-! ### Supply and keep domain (R49, R54, R114) -/

/-- R49, R114: POR release: bring-up begins at step 1. With the keep domain lost, CAUSE and COUNT read 0. -/
def execPorRelease (s : State) : Out :=
  .next (
    if s.sup.vsupUp then s else
    let s := if s.sup.keepOk then s else { s with
      rst.capCause := .none, rst.count := 0, rst.keepLost := true, rst.keepLostDue := true, sup.wakeTimerOn := false }
    { s with
      sup.vsupUp := true, sup.keepOk := true
      rst.phase := if s.rst.rstnLow then .held else .regulators })

/-- R507: the marker of an erase that has begun, `late`, is written, and the transition is over. -/
def endQuiet (late : Bool) (s : State) : State := { markErase late s with lcy.quiet := none }

/-- R49, R37: VSUP falls below the BOR threshold; the pin-state shadow is lost. `late`: an erase has begun. -/
def execBor (late : Bool) (s : State) : Out :=
  .next (
    if !s.sup.vsupUp then s else
    assertWith .bor none (endQuiet late s))

/-- R54: VKEEP falls below 1.10 V while VSUP is absent. -/
def execKeepDomainLost (s : State) : Out :=
  .next (if s.sup.vsupUp then s else { s with sup.keepOk := false, sup.wakeTimerOn := false })

/-! ### RST_N (R98) -/

/-- R98: an RST_N low pulse of `ns` so far is judged; from 1 µs to 4 µs the outcome is open. -/
def execRstNPulse (ns : Nat) (late : Bool) (s : State) : Out :=
  .next (
    if ns < 1000 then s else
    let (w, t) := takeFree s
    let (taken, s) := if 4000 ≤ ns then (true, s) else (w.getLsbD 0, t)
    if !taken then s
    else if !s.sup.vsupUp then { s with rst.rstnLow := true }
    else assertWith .rstN none (endQuiet late s))

/-- R98: RST_N rises and bring-up begins at step 2. -/
def execRstNRelease (s : State) : Out :=
  .next (
    let s' := { s with rst.rstnLow := false }
    if s.rst.rstnLow && s.rst.phase == .held && !s.rst.thermHold then { s' with rst.phase := .regulators } else s')

/-- R97: the 10 µs hold ends. -/
def execResetHoldExpiry (s : State) : Out :=
  .next (
    if s.rst.phase == .held && !s.rst.rstnLow && !s.rst.thermHold then { s with rst.phase := .regulators } else s)

/-! ### Thermal, watchdog, regulators (R96, R52, R116) -/

/-- R96: the die has been above 140 °C for 100 µs, in RUN or LISTEN. -/
def execThermalReset (same : Option ResetCause) (s : State) : Out :=
  .next (if live s && (s.sup.modeCur == .run || s.sup.modeCur == .listen) then assertWith .thermal same s else s)

/-- R97: the die is below 125 °C. -/
def execThermalResetRelease (s : State) : Out :=
  .next (
    if s.rst.thermHold then
      { s with rst.thermHold := false
               rst.phase := if s.rst.phase == .held && !s.rst.rstnLow then .regulators else s.rst.phase }
    else s)

/-- R96: one 1 ms sample of the keep domain's comparator in STANDBY; two above 140 °C reset. -/
def execThermalComparatorSample (hot : Bool) (s : State) : Out :=
  .next (
    if !(live s && s.sup.modeCur == .standby) then s
    else if !hot then { s with rst.thermRun := 0 }
    else if 1 ≤ s.rst.thermRun then assertWith .thermal none s
    else { s with rst.thermRun := 1 })

/-- R116: the watchdog timeout passes; it does not count in LISTEN and STANDBY, nor while the steward is halted. -/
def execWatchdogExpiry (same : Option ResetCause) (s : State) : Out :=
  .next (
    if fld 0x03 0x001 s != 0 && live s && s.sup.modeCur == .run && !(s.dbg.halted && (performing s).isEmpty) then
      assertWith .wdog same s
    else s)

/-- R52: a rail is not in regulation in time: reset is held and the regulator step is tried again. -/
def execRegulatorRetry (s : State) : Out :=
  .next (
    if s.rst.phase == .regulators then
      let s := assertReset .regFail s
      { s with rst.phase := .regulators }
    else s)

/-! ### Bring-up (R72, R77, R101, R103, R106) -/

/-- R120, R121: what an erasing transition erases: the Glacier store, the boot key and the token's hash. -/
def lifeErase (s : State) : State :=
  { glErase s with
    lcy.keyWords := [], lcy.keyMask := 0, lcy.keyLoad := [], lcy.keyLoadMask := 0, lcy.tokenHash := none }

/-- R121: an interrupted erase is completed. -/
def eraseResume (s : State) : State :=
  match s.lcy.eraseMarker with
  | some l => raise 0x4F7 { lifeErase s with
      lcy.code := l, lcy.eraseMarker := none, lcy.eraseResumed := true }
  | none => s

/-- R37, R41: the pin-state section is copied into the shadow, or, failing its check, Hi-Z stands for every ball. -/
def loadPins (ok : Bool) (s : State) : State :=
  { s with
    pin.shadow := if ok then s.lcy.pinFuse else [], pin.valid := ok, pin.loaded := true, pin.badDue := !ok }

/-- R72, R101, R103: the main PLL locks; step 4 loads the fuse map and zeroes every RAM bank. A pin-state section that
FUSE_WRITE has written passes its check (R124). -/
def execPllLocked (pinOk : Bool) (s : State) : Out :=
  .next (
    if s.rst.phase != .regulators then s else
    let s := zeroRam (loadKeys (loadPins (pinOk || s.lcy.pinWritten) (eraseResume s)))
    { s with
      rst.phase := .fused, clk.pllLock := true, sup.vcoreOk := true, sup.vanaOk := true
      lcy.shadow := s.lcy.code })

/-- R77: no valid count 2 ms into step 3: the PLL locks to the free-running trim oscillator. -/
def execRefAbsentTimeout (s : State) : Out :=
  .next (if s.rst.phase == .regulators then { s with clk.refAbsent := true } else s)

/-- R107: where the boot ROM goes from the release of internal reset. -/
def bootStage (boot : BitVec 2) (l : Life) : Stage :=
  match l with
  | .void => .void
  | .fab => .fabWait
  | _ => match boot.toNat with | 0 => .read | 1 => .read | 2 => .waitHost | _ => .waitDfu

/-- R106: internal reset rises, the straps are sampled and the boot ROM starts its path. DEDUCED: a reference that step 3 has
found reads as locked from here on, with event 0x404; the spec gives no moment (R72, assumption log 41). -/
def execInternalResetRelease (boot ckmode : BitVec 2) (s : State) : Out :=
  .next (
    if s.rst.phase != .fused then s else
    let present := decide (ckmode.toNat < 2) && !s.clk.refAbsent
    let lv : BitVec 16 := (s.gpio.level &&& 0x0FFF) ||| (ckmode ++ boot ++ (0 : BitVec 12))
    let s := raiseIf present 0x404 { s with
      rst.phase := .running, rst.boot := boot, rst.ckmode := ckmode, rst.cause := s.rst.capCause
      rst.wakeSrc := if s.rst.capCause == .shutdownWake then s.rst.capWake else 0
      rst.stage := bootStage boot s.lcy.shadow
      clk.refState := if present then .locked else .freeRun, gpio.level := lv }
    usbPumpStart s)

/-! ### Quiet stop and transitions (R505 to R507) -/

/-- R505 step 1: the outputs, Glint and the ring begin to stop, and what waits is dropped (R506). A quiet stop that runs
already goes on to its own end (assumption log 35). -/
def quietStop (k : QuietKind) (s : State) : State :=
  let quiet (x : Nat) (s : State) : State :=
    match (spkAt x s).state with
    | .starting | .running => spkStop x s
    | .waitBoost | .retryWait | .muted => setSpk x { spkAt x s with state := .off } s
    | _ => s
  let s := quiet 1 (quiet 0 s)
  let s := loutFade (b2n (loutOn 1 s) * 2 + b2n (loutOn 0 s)) (hpEnable 0 s)
  let s := ringStop (glintModeEntry s)
  { s with lcy.quiet := some (s.lcy.quiet.getD k), cmd.jobs := s.cmd.jobs.filter fun j => !j.copies.isEmpty }

/-- R505 steps 6 to 8: after any erase the new state is written and reset is asserted. In FAB, while a test image runs,
it is Vastalek's test that ends in DEVELOP (Table 06.2): DESIGN CHOICE, since the spec gives that transition no command
of its own (assumption log 42). -/
def execTransitionReset (s : State) : Out :=
  .next (
    let t := { s with lcy.quiet := none }
    match s.lcy.quiet with
    | none => if live s && s.lcy.shadow == .fab && s.stw.test then assertReset .lcy { s with lcy.code := .develop } else s
    | some .soft => assertReset .soft t
    | some .seal => assertReset .lcy { t with lcy.code := .sealed }
    | some .toReturn => assertReset .lcy (lifeErase { t with lcy.code := .ret })
    | some .toVoid => assertReset .lcy (lifeErase { t with lcy.code := .void }))

/-- RST.CAUSE. -/
def rstCause (s : State) : Word := BitVec.ofNat 32 (s.rst.wakeSrc.toNat * 256 + causeCode s.rst.cause)

/-- LCY.STATUS. -/
def lcyStatus (s : State) : Word :=
  BitVec.ofNat 32 (s.lcy.authFails * 256 + b2n s.dbg.session * 128 + b2n s.lcy.eraseResumed * 64
    + b2n (keySet s) * 32 + b2n s.lcy.tokenHash.isSome * 16 + lifeCode s.lcy.shadow)

end Sys2Proof.Machine
end

