-- ==== Sys2Proof/Machine/Regs.lean ====
section
/-! DEFINITION. The register space 0x4000_0000 to 0x4003_FFFF as words (R7, R8, R13): what each register reads, what a
read clears, what a write clears. Configuration fields are not readable but for EVT.ENABLE; a word that no register
occupies reads 0, and a write to it is dropped. -/

namespace Sys2Proof.Machine

/-! ### Pieces of words -/

/-- Four bytes as a word, byte j in [8j+7:8j]. -/
def bytesWord (f : Nat → Byte) (k : Nat) : Word := f (k + 3) ++ f (k + 2) ++ f (k + 1) ++ f k

/-- A word from fields, each a value and its lowest bit. -/
def fieldsWord (fs : List (Nat × Nat)) : Word := BitVec.ofNat 32 (fs.foldl (fun w f => w + f.1 * 2 ^ f.2) 0)

/-- The code of PWR.MODE (Table 03.3). -/
def modeCode : PowerMode → Nat
  | .run => 0 | .listen => 1 | .standby => 2 | .shutdown => 3

/-- The code of CLK.STATUS.REF_STATE (Table 04.9). -/
def refCode : RefState → Nat
  | .locked => 0 | .acquiring => 1 | .holdover => 2 | .freeRun => 3

/-- The code of TWC.STATUS.RESULT (Table 07.10). -/
def twcCode : TwcResult → Nat
  | .none => 0 | .done => 1 | .nakAddr => 2 | .nakData => 3 | .arbLost => 4 | .stretchTimeout => 5 | .busStuck => 6
  | .aborted => 7 | .bufErr => 8 | .busBusy => 9

/-- The code of a bank quarter's state (Table 13.10). -/
def powerCode : BankPower → Nat
  | .on => 0 | .retain => 1 | .off => 2

/-! ### Idle conditions (Table 05.10) -/

/-- A context of logical lane `l` is RUNNING or has a CSTART pending. -/
def laneBusy (l : Nat) (s : State) : Bool :=
  (laneCtxs l s).any (fun p => p.2.st == .running)
    || s.flow.any fun c => match c with | .cstart n .. => laneOf n == l | _ => false

/-- Table 05.10: a transfer to the bank of unit `u` is outstanding: an aperture write that waits for the system port
(R145), or the copy of a LOAD (R204). -/
def memOutstanding (u : Nat) (s : State) : Bool :=
  (match s.twh.aptWrite with | some (a, _) => memUnit a.toNat == some u | none => false)
    || s.cmd.jobs.any fun j => j.copies.any fun c => memUnit c.1 == some u || memUnit c.2.1 == some u

/-- IDLE of MEM unit `u` (Table 05.10). -/
def memIdle (u : Nat) (s : State) : Bool :=
  if u < 16 then !laneBusy u s && !memOutstanding u s
  else if u = 16 then !memOutstanding u s
  else if u < 21 then bankNow u 0 s != .on && !memOutstanding u s
  else s.mem.glQueue.isEmpty

/-! ### Registers that more than one state field makes up -/

/-- CLK.FRAME_STATUS (Table 01.8). -/
def frameStatus (s : State) : Word :=
  fieldsWord [(b2n (timingPending s), 4), (b2n (flowPending s), 3), (fld 0x01 0x011 s, 2), (fld 0x01 0x010 s, 0)]

/-- CLK.STATUS (Table 04.9). -/
def clkStatus (s : State) : Word :=
  fieldsWord [(b2n (s.clk.mclkHalf && s.rst.ckmode == 1), 6), (refCode s.clk.refState, 4), (b2n s.clk.pllLock, 3),
    (s.rst.ckmode.toNat, 0)]

/-- PWR.STATUS (Table 03.11). -/
def pwrStatus (s : State) : Word :=
  fieldsWord [(b2n s.sup.keepCharged, 9), (b2n s.sup.vusbOk, 8), (b2n s.sup.vanaOk, 7), (b2n s.sup.vcoreOk, 6),
    (b2n s.sup.bow, 5), (s.sup.sagStep, 2), (modeCode s.sup.modeCur, 0)]

/-- BOOST.STATUS (Table 03.14). -/
def boostStatus (s : State) : Word × State :=
  let (act, s) := boostIlimAct s
  (fieldsWord [(s.boost.voutCur, 8), (b2n s.boost.ssFail, 4), (b2n s.boost.ovp, 3), (b2n act, 2),
    (b2n s.boost.pgood, 1), (b2n (boostIdle s), 0)], s)

/-- TWH.STATUS. -/
def twhStatus (s : State) : Word :=
  fieldsWord [(b2n s.twh.addrNak, 21), (b2n s.twh.sdaRelease, 20), (b2n s.twh.collide, 19), (b2n s.twh.aptErr, 18),
    (b2n s.twh.late, 17), (b2n s.twh.busErr, 16), (b2n s.twh.active, 9), (b2n s.twh.lastMatch, 8),
    (s.twh.pointer.toNat, 0)]

/-- TWC.STATUS (Table 07.10). -/
def twcStatus (s : State) : Word :=
  fieldsWord [(s.twc.bytes, 16), (s.twc.clearClocks, 12), (min 15 s.twc.arbLosses, 8), (b2n s.twc.sclLow, 6),
    (b2n s.twc.sdaLow, 5), (b2n (s.twc.phase != .idle), 4), (twcCode s.twc.result, 0)]

/-- MEM.PWR_u (Table 13.10). -/
def memPwr (u : Nat) (s : State) : Word :=
  let q (k : Nat) : Nat := if u ≤ 16 then k else 0
  fieldsWord ([(b2n (memIdle u s), 12)]
    ++ (List.range 4).map (fun k => (b2n (s.mem.transit.getLsbD (4 * u + q k)), 8 + k))
    ++ (List.range 4).map (fun k => (powerCode (bankNow u (q k) s), 2 * k)))

/-- MEM.GL_STATUS (Table 13.11). -/
def glStatus (s : State) : Word :=
  let n := s.mem.glQueue.length
  fieldsWord [(b2n s.mem.glWprotHit, 10), (b2n (live s && s.sup.modeCur == .run && fld 0x09 0x010 s != 0), 9),
    (b2n (0 < n), 8), (n, 0)]

/-- CMD.CLAIM_STATUS (Table 08.14). -/
def claimStatus (s : State) : Word :=
  let n (src : Source) : Nat := s.cmd.claims.countP (·.1 == src)
  fieldsWord [(s.cmd.dropped.toNat, 24), (n .ring, 16), (n .usb, 8), (n .host, 0)]

/-- R165, Table 08.8: GSTATUS. -/
def gstatus (s : State) : Word :=
  fieldsWord [(b2n s.win.mbx.valid, 18), (b2n s.win.mbx.busy, 17), (b2n (evtDigest s != 0), 16),
    (lifeCode s.lcy.shadow, 12), (stageCode s.rst.stage, 8), (s.clk.frameCnt.toNat % 256, 0)]

/-! ### Reading (R13) -/

/-- Registers 0x1000 to 0x7FFF of the register space: CLK, PWR, RST, LCY, TWH, TWC. -/
def readLow (a : Nat) (s : State) : Word × State :=
  if 0x4100 ≤ a ∧ a < 0x5000 then (Config.param ((a - 0x4100) / 4), s)
  else if 0x1060 ≤ a ∧ a < 0x1078 then
    let k := (a - 0x1060) / 4
    (fieldsWord [(vget s.clk.slipIn k 0, 16), (vget s.clk.slipOut k 0, 0)],
      { s with clk.slipIn := vset s.clk.slipIn k 0, clk.slipOut := vset s.clk.slipOut k 0 })
  else match a with
  | 0x1040 => (frameStatus s, s)
  | 0x1044 => (s.clk.frameCnt, s)
  | 0x1048 => (s.clk.lastApply, s)
  | 0x104C => (clkStatus s, s)
  | 0x1050 => (asrcStatus s, s)
  | 0x1054 => (s.clk.slip.setWidth 32, s)
  | 0x2040 => (pwrStatus s, s)
  | 0x2044 => (fieldsWord [(s.sup.minMv, 16), (s.sup.nowMv, 0)], { s with sup.minMv := 0xFFF })
  | 0x2048 => (s.sup.wakeCause.setWidth 32, { s with sup.wakeCause := 0 })
  | 0x3040 => (rstCause s, s)
  | 0x3044 => (BitVec.ofNat 32 s.rst.count, s)
  | 0x3048 => (BitVec.ofNat 32 (b2n s.rst.keepLost), s)
  | 0x304C => (fieldsWord [(s.rst.ckmode.toNat, 2), (s.rst.boot.toNat, 0)], s)
  | 0x3050 => (bootStatus s, s)
  | 0x4040 => (lcyStatus s, s)
  | 0x5040 => (twhStatus s, s)
  | 0x5044 => (fieldsWord [(s.twh.addrNaks, 16), (s.twh.dataNaks, 0)], { s with twh.addrNaks := 0, twh.dataNaks := 0 })
  | 0x6040 => (twcStatus s, s)
  | _ => (0, s)

/-- LANE and MEM. -/
def readLane (a : Nat) (s : State) : Word × State :=
  if 0x8040 ≤ a ∧ a < 0x8080 then
    let l := (a - 0x8040) / 4
    (fieldsWord [(b2n (s.lane.ovrAny.getLsbD l), 31), (vget s.lane.cycUsed l 0, 0)], s)
  else if 0x8400 ≤ a ∧ a < 0x8800 then (bytesWord (fun n => ctxState n s) (a - 0x8400), s)
  else if 0x8800 ≤ a ∧ a < 0x8C00 then
    let n := a - 0x8800
    (bytesWord (fun n => BitVec.ofNat 8 (ctxAt n s).ovrCount) n,
      (List.range 4).foldl (fun t k => setCtx (n + k) { ctxAt (n + k) t with ovrCount := 0 } t) s)
  else if 0x8C00 ≤ a ∧ a < 0x9000 then (bytesWord (fun n => BitVec.ofNat 8 (ctxAt n s).faultCode) (a - 0x8C00), s)
  else if 0x9100 ≤ a ∧ a < 0x9154 then (memPwr ((a - 0x9100) / 4) s, s)
  else match a with
  | 0x8080 => (s.lane.lastFault, s)
  | 0x8084 => (s.lane.loadStatus, s)
  | 0x8088 => (s.lane.stwFault, s)
  | 0x8090 => (laneMap s, s)
  | 0x8094 => (s.lane.lost.setWidth 32, s)
  | 0x8098 => (s.lane.info, s)
  | 0x809C => (s.lane.faultFrame, s)
  | 0x80A0 => (s.lane.faultAddr, s)
  | 0x80A4 => (BitVec.ofNat 32 s.lane.eccCorr, { s with lane.eccCorr := 0 })
  | 0x80A8 => (s.lane.starved.setWidth 32, s)
  | 0x9040 => (BitVec.ofNat 32 s.mem.collide, { s with mem.collide := 0 })
  | 0x9044 => (s.mem.errAddr, s)
  | 0x9048 => (fieldsWord [(s.mem.uncorr, 16), (s.mem.corr, 0)], { s with mem.uncorr := 0, mem.corr := 0 })
  | 0x904C => (s.mem.uncorrAddr, s)
  | 0x9050 => (glStatus s, s)
  | 0x9054 => (fieldsWord [(s.mem.glUncorr, 16), (s.mem.glCorr, 0)], { s with mem.glUncorr := 0, mem.glCorr := 0 })
  | 0x9058 => (s.mem.glUncorrAddr, s)
  | 0x905C => (fieldsWord [(s.mem.scrubPasses, 24), (s.mem.scrubPos, 0)], { s with mem.scrubPasses := 0 })
  | _ => (0, s)

/-- STRM and BRINE. -/
def readStrm (a : Nat) (s : State) : Word × State :=
  if a < 0xA800 then
    let n := (a - 0xA000) / 2
    (strmInfo (n + 1) s ++ strmInfo n s, s)
  else if 0xAC00 ≤ a ∧ a < 0xB000 then
    let n := a - 0xAC00
    (bytesWord (fun n => BitVec.ofNat 8 (strm n s).conceal) n,
      (List.range 4).foldl (fun t k => setStrm (n + k) { strm (n + k) t with conceal := 0 } t) s)
  else if 0xB080 ≤ a ∧ a < 0xB0C0 then (BitVec.ofNat 32 ((members s).countP (·.2 == (a - 0xB080) / 4)), s)
  else if 0xB400 ≤ a ∧ a < 0xB800 then
    let n := a - 0xB400
    (bytesWord (fun n => BitVec.ofNat 8 (strm n s).satCnt) n,
      (List.range 4).foldl (fun t k => setStrm (n + k) { strm (n + k) t with satCnt := 0 } t) s)
  else match a with
  | 0xA800 => (strmUsed s, s)
  | 0xB040 => (busStatus s, s)
  | _ => (0, s)

/-- SP0 to SP3, USB and RING. -/
def readPorts (a : Nat) (s : State) : Word × State :=
  if a < 0x14000 then
    let n := (a - 0x10000) / 0x1000
    match a % 0x1000 with
    | 0x040 => (spStatus n s, s)
    | 0x044 =>
      let x := spAt n s
      (fieldsWord [(x.frameErrs, 16), (x.losses, 0)], setSp n { x with frameErrs := 0, losses := 0 } s)
    | _ => (0, s)
  else match a with
  | 0x14040 => (usbStatus s, s)
  | 0x14044 => (usbWakeStatus s, s)
  | 0x14048 => (s.usb.hidLed.setWidth 32, s)
  | 0x1404C => (dfuStatusWord s, s)
  | 0x14050 => (s.usb.feedback, s)
  | 0x14054 => (fieldsWord [(s.usb.crcErrs, 16), (s.usb.isoMissed, 0)], { s with usb.crcErrs := 0, usb.isoMissed := 0 })
  | 0x15040 => (ringStatus s, s)
  | 0x15044 => (s.ring.present.setWidth 32, s)
  | 0x15048 => ((s.ring.present >>> 32).setWidth 32, s)
  | 0x1504C => (BitVec.ofNat 32 s.ring.loop, s)
  | 0x15050 => (fieldsWord [(s.ring.crcErrs, 16), (s.ring.codeErrs, 0)], { s with ring.crcErrs := 0, ring.codeErrs := 0 })
  | 0x15054 => (fieldsWord [(s.ring.badMsg, 24), (s.ring.undelivered, 16), (s.ring.stomped, 8), (s.ring.collides, 0)],
      { s with ring.badMsg := 0, ring.undelivered := 0, ring.stomped := 0, ring.collides := 0 })
  | 0x15058 => (fieldsWord [(b2n s.ring.sendBusy, 31), (b2n s.ring.sendValid, 30), (s.ring.sendCode, 0)], s)
  | 0x1505C => (s.ring.sendData, s)
  | 0x15060 => (fieldsWord [(s.ring.held, 16), (s.ring.lockLosses, 0)], { s with ring.held := 0, ring.lockLosses := 0 })
  | _ => (0, s)

/-- MIC, WAKE and VAULT. -/
def readMic (a : Nat) (s : State) : Word × State :=
  match a with
  | 0x18040 => (micStatus s, s)
  | 0x18044 => (s.mic.stuck.setWidth 32, s)
  | 0x18048 => (s.mic.clip.setWidth 32, s)
  | 0x1804C => (micCalResult s, s)
  | 0x19040 => (wakeStatus s, s)
  | 0x1A040 => (vaultStatus s, s)
  | 0x1A044 => (BitVec.ofNat 32 s.vault.valid, s)
  | 0x1A048 => (s.vault.freezeFrame, s)
  | 0x1A04C => (BitVec.ofNat 32 s.vault.wakeIndex, s)
  | 0x1A050 => (BitVec.ofNat 32 (s.vault.openLeft / 3000 % 256), s)
  | _ => (0, s)

/-- AADC, PIPE, SAR0 and SAR1. PIPE.LAST_x is a sample taken at the read: an open value of 14 bits. -/
def readConv (a : Nat) (s : State) : Word × State :=
  if 0x20050 ≤ a ∧ a < 0x20060 then (aadcTest ((a - 0x20050) / 4) s, s)
  else if 0x21050 ≤ a ∧ a < 0x21068 then
    if pipePowered ((a - 0x21050) / 4) s then
      let (w, s) := takeFree s
      (w &&& 0x3FFF, s)
    else (0, s)
  else if a < 0x22000 then
    match a with
    | 0x20040 => aadcStatus s
    | 0x21040 => (pipeStatus s, s)
    | _ => (0, s)
  else
    let n := (a - 0x22000) / 0x1000
    let r := a % 0x1000
    if 0x080 ≤ r ∧ r < 0x0C0 then sarReadResult n ((r - 0x080) / 4) s
    else match r with
    | 0x040 => (sarStatus n s, s)
    | 0x0C0 => sarPop n s
    | 0x0C4 => sarReadUrgent n s
    | 0x0C8 => (sarWinStatus n s, s)
    | 0x0D0 => (if n = 0 then BitVec.ofInt 16 (sarAt 0 s).sysTemp |>.setWidth 32 else 0, s)
    | 0x0D4 => (if n = 0 then (sarAt 0 s).sysJack.setWidth 32 else 0, s)
    | _ => (0, s)

/-- DAC, TONE, HP, JACK, SPK, BOOST, GLINT, HALO and GPIO. -/
def readOut (a : Nat) (s : State) : Word × State :=
  if 0x30060 ≤ a ∧ a < 0x30068 then
    let x := (a - 0x30060) / 4
    if !spkUsed x s then (0, s)
    else (spkLimcnt x s, setSpk x { spkAt x s with limited := 0, shutdowns := 0 } s)
  else if 0x39400 ≤ a ∧ a ≤ 0x394B8 then (pinfuseWord ((a - 0x39400) / 4) s, s)
  else match a with
  | 0x28040 => (dacStatus s, s)
  | 0x29040 => (toneStatus s, s)
  | 0x2A040 => (hpStatus s, s)
  | 0x2B040 => (jackStatus s, s)
  | 0x30040 => spkStatus 0 s
  | 0x30044 => spkStatus 1 s
  | 0x30048 => (spkStage s, s)
  | 0x30050 => (spkImp 0 s, s)
  | 0x30054 => (if spkUsed 1 s then spkImp 1 s else 0, s)
  | 0x31040 => boostStatus s
  | 0x32040 => (glintStatus s, s)
  | 0x32048 => (glintEnv 0 s, s)
  | 0x3204C => (glintEnv 1 s, s)
  | 0x38040 => (haloStatus s, s)
  | 0x38044 => (s.halo.open_.setWidth 32, s)
  | 0x39040 => (gpioIn s, s)
  | 0x39044 => (s.gpio.edgeSeen.setWidth 32, s)
  | 0x39048 => (gpioStatus s, s)
  | _ => (0, s)

/-- EVT (Tables 08.13 and 08.14). -/
def readEvt (a : Nat) (s : State) : Word × State :=
  if a < 0x3F100 then (latchWord ((a - 0x3F000) / 4) s, s)
  else if a < 0x3F200 then (BitVec.ofNat 32 (fld 0x3F ((a - 0x3F100) / 4 + 0x100) s), s)
  else match a with
  | 0x3F200 => ((evtDigest s).setWidth 32, s)
  | 0x3F204 => ((evtDigest s >>> 32).setWidth 32, s)
  | 0x3F208 => (s.evt.repeats.setWidth 32, { s with evt.repeats := s.evt.repeats &&& 0xFFFFFFFF00000000 })
  | 0x3F20C => ((s.evt.repeats >>> 32).setWidth 32, { s with evt.repeats := s.evt.repeats &&& 0xFFFFFFFF })
  | 0x3F210 => (claimStatus s, { s with cmd.dropped := 0 })
  | _ => (0, s)

/-- The word at register address `a`, a multiple of 4 below 0x4004_0000, and the state after its RC fields clear. -/
def regRead (a : Nat) (s : State) : Word × State :=
  let r := a - 0x40000000
  if r < 0x8000 then readLow r s
  else if r < 0xA000 then readLane r s
  else if r < 0x10000 then readStrm r s
  else if r < 0x18000 then readPorts r s
  else if r < 0x20000 then readMic r s
  else if r < 0x24000 then readConv r s
  else if r < 0x3F000 then readOut r s
  else readEvt r s

/-! ### Writing (R8, R13) -/

/-- TWH.STATUS, W1C in [21:16]. -/
def twhW1c (w : Word) (s : State) : State :=
  let k (b : Bool) (n : Nat) : Bool := b && !w.getLsbD n
  { s with
    twh.addrNak := k s.twh.addrNak 21, twh.sdaRelease := k s.twh.sdaRelease 20, twh.collide := k s.twh.collide 19
    twh.aptErr := k s.twh.aptErr 18, twh.late := k s.twh.late 17, twh.busErr := k s.twh.busErr 16 }

/-- The W1C registers at `r` (from the base of the register space), with the enabled bits of the word written. -/
def w1c (r : Nat) (w : Word) (s : State) : State :=
  if 0x3F000 ≤ r ∧ r < 0x3F100 then clearEvents ((r - 0x3F000) / 4) w 0 s
  else if 0x10000 ≤ r ∧ r < 0x14000 ∧ r % 0x1000 = 0x040 then spStatusW1c ((r - 0x10000) / 0x1000) w s
  else match r with
  | 0x1050 => { s with clk.asrcLost := s.clk.asrcLost &&& ~~~((w >>> 16).setWidth 6) }
  | 0x1054 => { s with clk.slip := s.clk.slip &&& ~~~(w.setWidth 6) }
  | 0x5040 => twhW1c w s
  | 0x80A8 => { s with lane.starved := s.lane.starved &&& ~~~(w.setWidth 17) }
  | 0x9050 => if w.getLsbD 10 then { s with mem.glWprotHit := false } else s
  | 0xB040 => { s with strm.busSat := s.strm.busSat &&& ~~~(w.setWidth 16) }
  | 0x14044 => usbWakeW1c w s
  | 0x15040 => if w.getLsbD 13 then { s with ring.callSeen := false } else s
  | 0x18040 => { s with mic.biasIlim := s.mic.biasIlim &&& ~~~((w >>> 4).setWidth 2) }
  | 0x18044 => { s with mic.stuck := s.mic.stuck &&& ~~~(w.setWidth 16) }
  | 0x18048 => { s with mic.clip := s.mic.clip &&& ~~~(w.setWidth 20) }
  | 0x21040 => { s with pipe.ovr := s.pipe.ovr &&& ~~~((w >>> 16).setWidth 6) }
  | 0x22040 => sarStatusW1c 0 w s
  | 0x23040 => sarStatusW1c 1 w s
  | 0x220C8 => sarWinW1c 0 w s
  | 0x230C8 => sarWinW1c 1 w s
  | 0x28040 => dacStatusW1c w s
  | 0x29040 => toneStatusW1c w s
  | 0x2A040 => hpStatusW1c w s
  | 0x30040 => if w.getLsbD 12 then setSpk 0 { spkAt 0 s with clip := false } s else s
  | 0x30044 => if w.getLsbD 12 && spkUsed 1 s then setSpk 1 { spkAt 1 s with clip := false } s else s
  | 0x32040 => glintW1c w s
  | 0x38040 => if w.getLsbD 6 then { s with halo.seqDone := false } else s
  | 0x38044 => { s with halo.open_ := s.halo.open_ &&& ~~~(w.setWidth 24) }
  | 0x39044 => { s with gpio.edgeSeen := s.gpio.edgeSeen &&& ~~~(w.setWidth 16) }
  | _ => s

/-- A write of the bytes of `w` that `be` enables to register address `a`. The steward's store to DAC.RDAC_DATA_x feeds
the queue (R430); every other write acts on W1C bits only. -/
def regWrite (a : Nat) (w : Word) (be : BitVec 4) (steward : Bool) (s : State) : State :=
  let r := a - 0x40000000
  let v := mergeBytes 0 w be
  if steward && (r == 0x28060 || r == 0x28064) then rdacPush ((r - 0x28060) / 4) (v.setWidth 12) s
  else w1c r v s

end Sys2Proof.Machine
end

