-- ==== Sys2Proof/Machine/Access.lean ====
section
/-! DEFINITION. Accesses of one word through the system port (R22, R25, R130, R193, R204, R274, R276, R281, R301, R389):
who may reach what, and how each access ends. -/

namespace Sys2Proof.Machine

/-- The requesters of the system port. -/
inductive Port where
  | aperture | usb | ring | debug | steward
  deriving DecidableEq, Repr

/-- How a system-port access ends. -/
inductive Reply where
  /-- served; the word of a read -/
  | ok (w : Word)
  /-- R25: no bank and no register -/
  | unmapped
  /-- an error response -/
  | err
  /-- R130: the life-cycle state or the boot stage refuses it -/
  | denied
  /-- R389: the closed firn vault refuses it -/
  | sealed
  /-- R269: the write lost to the owner port -/
  | collided
  deriving DecidableEq, Repr

/-- R110: the staging area. -/
def staging (a : Nat) : Bool := 0x1000000 ≤ a && a < 0x1080000

/-- R2: the PARAM words of register space. -/
def isParam (a : Nat) : Bool := 0x40004100 ≤ a && a < 0x40005000

/-- R127, R130, Table 06.8: the life-cycle state lets port `p` reach address `a`. -/
def portMay (p : Port) (write : Bool) (a : Nat) (s : State) : Bool :=
  match p with
  | .steward => true
  | .debug => match s.lcy.shadow with
    | .fab => true | .develop => true | .sealed => false | .ret => s.dbg.session | .void => false
  | _ =>
    let host : Bool := p == .aperture && s.rst.stage == .waitHost && staging a
    match s.lcy.shadow with
    | .void => !write && isParam a
    | .fab => !(write && memUnit a == some 21)
    | .develop => !(write && memUnit a == some 21)
    | _ => match memUnit a with
      | none => true
      | some u => u == 19 || u == 20 || host

/-- A refused access (R130). -/
def refuse (r : Reply) (s : State) : Reply × State := (r, raise 0x4F4 s)

/-- R204: the address lies in a range that the copy of a LOAD reads or writes. -/
def copying (a : Nat) (s : State) : Bool :=
  s.cmd.jobs.any fun j => j.copies.any fun c =>
    (c.1 ≤ a && a < c.1 + c.2.2) || (c.2.1 ≤ a && a < c.2.1 + c.2.2)

/-- R193: the word lies in a verified code region. -/
def verified (a : Nat) (s : State) : Bool := s.lane.regions.any fun r => r.base ≤ a && a < r.base + 4 * r.words

/-- R301: Brine keeps its state in the Brine store. -/
def brineHolds (a : Nat) (s : State) : Bool := brineOwns s && memUnit a == some 18

/-- Table 13.5: an access through the system port, or the scrubber, finds an uncorrectable error in the word at `a`. -/
def ramUncorr (a : Nat) (s : State) : State :=
  match memUnit a with
  | none => s
  | some u =>
    if u < 16 && !s.lane.lost.getLsbD u then laneFault u .bankEcc a none false s
    else raise 0x433 { setWord a 0 s with
      mem.known := smSet false a true s.mem.known
      mem.uncorrAddr := BitVec.ofNat 32 a, mem.uncorr := satAdd 0xFFFF s.mem.uncorr 1 }

/-- R276: a single-bit error in the word at `a` was corrected. -/
def ramSingle (a : Nat) (s : State) : State :=
  match memUnit a with
  | none => s
  | some u =>
    if u ≤ 16 then { s with lane.eccCorr := satAdd 0xFFFF s.lane.eccCorr 1 }
    else { s with mem.corr := satAdd 0xFFFF s.mem.corr 1 }

/-- R276: the check of the RAM word at `a` finds `e`; the access goes on unless the error is uncorrectable. -/
def ramEcc (a : Nat) (e : Ecc) (s : State) : Bool × State :=
  match e with
  | .clean => (true, s) | .single => (true, ramSingle a s) | .uncorr => (false, ramUncorr a s)

/-! ### Blocks in a wrapped reset (R112, Table 05.11) -/

/-- R112: a wrapped reset lasts up to 10 µs: which of those of earlier blocks still last at this access is open. -/
def settleResets (s : State) : State :=
  if s.rst.resets.isEmpty then s else
  let (w, s) := takeFree s
  { s with rst.resets := (s.rst.resets.zipIdx.filter fun e => w.getLsbD e.2).map (·.1) }

/-- The block ID of a register address. -/
def regBlock (a : Nat) : Nat := (a - 0x40000000) / 0x1000

/-- R112: the register at `a` belongs to a block in reset. The registers of LANE belong to every lane, and the reset of one
lane leaves them alone: DESIGN CHOICE (assumption log 18). -/
def inReset (a : Nat) (s : State) : Bool := regBlock a != 0x08 && s.rst.resets.any (·.1 == regBlock a)

/-- R112, R118: the reset of block `blk` answers a transfer with an error; each reset raises BRESET_ERR once. -/
def resetErr (blk : Nat) (s : State) : State :=
  raiseIf (s.rst.resets.any fun r => r.1 == blk && !r.2.2) 0x4F2 { s with
    rst.resets := s.rst.resets.map fun r => if r.1 == blk then (r.1, r.2.1, true) else r }

/-- R22: a read of the word at `a`, a multiple of 4; `e`: what the ECC check of the word finds. -/
def sysRead (p : Port) (a : Nat) (e : Ecc) (s : State) : Reply × State :=
  if !portMay p false a s then refuse .denied s
  else if isReg a then
    let s := settleResets s
    if inReset a s then (.err, resetErr (regBlock a) s) else
    let (w, s) := regRead a s
    (.ok w, s)
  else match memUnit a with
  | none => (.unmapped, raise 0x432 s)
  | some u =>
    if u = 20 ∧ !s.vault.open_ then refuse .sealed s
    else if u = 21 then
      match glRead a e s with
      | (some w, s) => (.ok w, s)
      | (none, s) => (.err, s)
    else if !addrOn a s then (.err, notOn a s)
    else if copying a s || brineHolds a s then (.err, s)
    else
      let (ok, s) := ramEcc a e s
      if !ok then (.err, s) else
      let (w, s) := ramWord a s
      (.ok w, s)

/-- R267, R269: the owner of the bank of unit `u` can write the word at `a` while port `p` reaches it: no bank of LX has an owner,
Brine writes its store only while streams are members (R301), the port engine only its regions (R286). -/
def ownerMay (p : Port) (u a : Nat) (s : State) : Bool :=
  match u with
  | 16 => false
  | 17 => p != .steward
  | 18 => false
  | 19 => portOccupied a 4 s
  | _ => true

/-- R279, R282: a write of Glacier bytes through the system port; one of fewer than four bytes reads a word that is not queued,
whose check finds `e`: an uncorrectable error is answered with an error response. -/
def glStore (a : Nat) (w : Word) (be : BitVec 4) (e : Ecc) (s : State) : Reply × State :=
  if glProtected a s || be == 0xF then (.ok 0, glWrite a w be s)
  else match glRead a e s with
    | (some _, s) => (.ok 0, glWrite a w be s)
    | (none, s) => (.err, s)

/-- R22: a write of the bytes of `w` that `be` enables to the word at `a`; `hit`: the owner port writes the same word in
the same cycles (R269, R270); `e`: what the read of a sub-word write finds. -/
def sysWrite (p : Port) (a : Nat) (w : Word) (be : BitVec 4) (hit : Bool) (e : Ecc) (s : State) : Reply × State :=
  if !portMay p true a s then refuse .denied s
  else if p == .aperture && s.rst.stage == .waitHost && !staging a then (.denied, s)
  else if isReg a then
    let s := settleResets s
    if inReset a s then (.err, resetErr (regBlock a) s) else (.ok 0, regWrite a w be (p == .steward) s)
  else match memUnit a with
  | none => (.unmapped, raise 0x432 s)
  | some u =>
    if u = 20 then refuse .sealed s
    else if u = 21 then glStore a w be e s
    else if !addrOn a s then (.err, notOn a s)
    else if copying a s || brineHolds a s || verified a s then (.err, s)
    else if hit && ownerMay p u a s then (.collided, collide s)
    else
      let (ok, s) := if be = 0xF then (true, s) else ramEcc a e s
      if !ok then (.err, s) else (.ok 0, ramWrite a w be s)

/-- The word that a read returns where every failure reads 0 (R25, R130, R145, R330). -/
def Reply.word : Reply → Word
  | .ok w => w
  | _ => 0

end Sys2Proof.Machine
end

