-- ==== Sys2Proof/Machine/Twc.lean ====
section
/-! DEFINITION. 07_two_wire_ports, the controller: transfers, arbitration, bus clear (R150 to R156). Levels of the bus and
the answers of the addressed target come with the commands. -/

namespace Sys2Proof.Machine

/-- The controller ends what it does with a RESULT (R155). -/
def twcEnd (r : TwcResult) (s : State) : State :=
  raise (if r == .done then 0x4B4 else 0x4B5) { s with twc.phase := .idle, twc.result := r, twc.clearEnd := .none }

/-- R150, R156: TWC.START = 1 on commit. -/
def twcStart (s : State) : State :=
  { s with
    twc.phase := if s.twc.needClear then .busClear else .waitBus
    twc.needClear := false, twc.clearOnly := false, twc.clearEnd := .none, twc.result := .none
    twc.bytes := 0, twc.arbLosses := 0, twc.sent := [], twc.retries := fld 0x06 0x007 s }

/-- R152: TWC.CLEAR = 1 on commit. -/
def twcClear (s : State) : State :=
  { s with twc.phase := .busClear, twc.needClear := false, twc.clearOnly := true, twc.clearEnd := .none }

/-- R155: BYTES after `n` data bytes of the transfer. -/
def twcBytes (n : Nat) (s : State) : State :=
  { s with twc.bytes := min n (fld 0x06 0x004 s + fld 0x06 0x005 s) }

/-- R155: how far a transfer has come when arbitration, a stretched clock or an abort ends it is open (assumption log 4). -/
def twcOpenBytes (s : State) : State :=
  if s.twc.phase != .transfer then s else
  let (w, s) := takeFree s
  twcBytes (w.toNat % (fld 0x06 0x004 s + fld 0x06 0x005 s + 1)) s

/-- R156: the transfer or bus clear in progress ends with ABORTED, and the next transfer begins with a bus clear. -/
def twcAbort (s : State) : State :=
  if s.twc.phase == .idle then s else twcEnd .aborted { twcOpenBytes s with twc.needClear := true }

/-- R112, R156: BRESET of TWC. -/
def twcBreset (s : State) : State :=
  let s := resetFields 0x06 (twcAbort s)
  { s with twc := {
      bytes := s.twc.bytes, result := if s.twc.result == .aborted then .aborted else .none
      needClear := s.twc.needClear, sclLow := s.twc.sclLow, sdaLow := s.twc.sdaLow } }

/-- R151: the controller, having waited, finds the bus free and issues START. -/
def execTwcBusFree (s : State) : Out :=
  .next (
    let s := { s with twc.sclLow := false, twc.sdaLow := false }
    if s.twc.phase == .waitBus then { s with twc.phase := .transfer } else s)

/-- R153: an SDA mismatch loses arbitration; the whole transfer starts again while retries are
left. -/
def execTwcArbLost (s : State) : Out :=
  .next (
    if s.twc.phase != .transfer then s else
    let s := { s with twc.arbLosses := s.twc.arbLosses + 1 }
    if 0 < s.twc.retries then { s with twc.retries := s.twc.retries - 1, twc.phase := .waitBus, twc.bytes := 0 }
    else twcEnd .arbLost (twcOpenBytes s))

/-- R151: a bus that does not come free. SCL held low ends the transfer with BUS_STUCK; a stuck SDA starts a bus clear;
with SCL activity for 100 ms the transfer ends with BUS_BUSY. -/
def execTwcBusTimeout (sclLow sdaLow : Bool) (s : State) : Out :=
  .next (
    let s := { s with twc.sclLow := sclLow, twc.sdaLow := sdaLow }
    if s.twc.phase != .waitBus then s
    else if sclLow then twcEnd .busStuck s
    else if sdaLow then { s with twc.phase := .busClear }
    else twcEnd .busBusy s)

/-- R154: a target holds SCL low for longer than TWC.TIMEOUT: a bus clear, then RESULT
STRETCH_TIMEOUT. -/
def execTwcStretchTimeout (s : State) : Out :=
  .next (
    if s.twc.phase == .transfer then
      { twcOpenBytes s with twc.phase := .busClear, twc.clearEnd := .stretchTimeout, twc.sclLow := true }
    else s)

/-- R152, R154: a bus clear ends after `pulses` pulses; `freed` when SDA reads high. -/
def execTwcBusClearDone (pulses : Fin 10) (freed : Bool) (s : State) : Out :=
  .next (
    if s.twc.phase != .busClear then s else
    let s := { s with twc.clearClocks := pulses.val, twc.sclLow := false, twc.sdaLow := !freed }
    let s := raiseIf freed 0x4B7 s
    if s.twc.clearEnd != .none then twcEnd s.twc.clearEnd s
    else if !freed then twcEnd .busStuck s
    else if s.twc.clearOnly then { s with twc.phase := .idle, twc.clearOnly := false }
    else { s with twc.phase := .waitBus })

/-- R150: the access of the buffer word at `a`; `e`: what its check finds. False for an error response. -/
def twcAccess (a : Nat) (e : Ecc) (s : State) : Bool × State :=
  if !addrOn a s then (false, notOn a s)
  else if copying a s then (false, s)
  else ramEcc a e s

/-- R150: the bytes of the buffer words at `as`, up to the first error response. -/
def twcFetch : List Nat → List Ecc → State → List Byte × State
  | [], _, s => ([], s)
  | a :: as, es, s =>
    let (ok, s) := twcAccess a (es.headD .clean) s
    if !ok then ([], s) else
    let (w, s) := ramWord a s
    let (bs, s) := twcFetch as es.tail s
    (leBytes w ++ bs, s)

/-- R150: received bytes go into the buffer from `a`, up to the first error response: how many were read, whether all could
be stored. The check of a word is made with its first byte. -/
def twcStore : Nat → List Byte → List Ecc → State → Nat × Bool × State
  | _, [], _, s => (0, true, s)
  | a, b :: bs, es, s =>
    let first := a % 4 == 0
    let (ok, s) := twcAccess (a / 4 * 4) (if first then es.headD .clean else .clean) s
    if !ok then (1, false, s) else
    let s := ramWrite (a / 4 * 4) ((b.setWidth 32) <<< (8 * (a % 4))) (BitVec.ofNat 4 (2 ^ (a % 4))) s
    let (n, ok, s) := twcStore (a + 1) bs (if first then es.tail else es) s
    (n + 1, ok, s)

/-- The addresses of the buffer words that hold `n` bytes. -/
def twcWords (n : Nat) (s : State) : List Nat := (List.range ((n + 3) / 4)).map fun k => fld 0x06 0x006 s + 4 * k

/-- R150: the address byte of TWC.TARGET. -/
def twcTarget (read : Bool) (s : State) : Byte := BitVec.ofNat 8 (2 * fld 0x06 0x003 s + b2n read)

/-- R150: the read part of a transfer that has written `wl` bytes. -/
def twcReceive (wl : Nat) (rd : List Byte) (es : List Ecc) (s : State) : State :=
  let rl := fld 0x06 0x005 s
  if rl = 0 then twcEnd .done { s with twc.bytes := wl } else
  let bs := (List.range rl).map fun k => rd.getD k 0xFF
  let (n, ok, s) := twcStore (fld 0x06 0x006 s + 0x100) bs es { s with twc.sent := s.twc.sent ++ [twcTarget true s] }
  twcEnd (if ok then .done else .bufErr) { s with twc.bytes := wl + n }

/-- R150, R155: the transfer runs to its end on the bus. `nak`: the acknowledge bit that reads NAK, counted over the
address and written bytes and then the read address, if one does; `rd`: the bytes the target sends; `es`: what the checks
of the buffer words find, in the order of the accesses. A byte whose buffer word cannot be fetched is not sent. -/
def execTwcTransferDone (nak : Option Nat) (rd : List Byte) (es : List Ecc) (s : State) : Out :=
  .next (
    if s.twc.phase != .transfer then s else
    let wl := fld 0x06 0x004 s
    if nak == some 0 then twcEnd .nakAddr { s with twc.sent := [twcTarget (wl == 0) s] }
    else if wl = 0 then twcReceive 0 rd es { s with twc.sent := [] }
    else
      let n := min wl (nak.getD wl)
      let words := twcWords n s
      let (bs, s) := twcFetch words es { s with twc.sent := [twcTarget false s] }
      let sent := bs.take n
      let s := { s with twc.sent := s.twc.sent ++ sent, twc.bytes := sent.length }
      if sent.length < n then twcEnd .bufErr s
      else match nak with
      | none => twcReceive wl rd (es.drop words.length) s
      | some k =>
        if k ≤ wl then twcEnd .nakData { s with twc.bytes := k - 1 }
        else twcEnd .nakAddr { s with twc.sent := s.twc.sent ++ [twcTarget true s] })

end Sys2Proof.Machine
end

