-- ==== Sys2Proof/Machine/Window.lean ====
section
/-! DEFINITION. The host window (08_host_window_commands_events, R163 to R170) and the host two-wire target
(07_two_wire_ports, R137 to R149): address matching, the pointer, word snapshots, words written whole, the aperture. -/

namespace Sys2Proof.Machine

/-! ### The window (R163 to R170) -/

/-- R139, R4: the target answers from the end of bring-up step 4, in RUN. -/
def twhUp (s : State) : Bool :=
  (s.rst.phase == .fused || s.rst.phase == .running) && s.sup.modeCur == .run && !s.sup.waking

/-- The life-cycle state VOID leaves only ID, PARAM, GSTATUS and the mailbox (R130, R170). -/
def windowVoid (s : State) : Bool := s.lcy.shadow == .void

/-- The stage is WAIT_HOST, in which the window takes few writes (R110). -/
def waitingHost (s : State) : Bool := s.rst.stage == .waitHost

/-- R165: the PARAM selector; it is not among what WAIT_HOST lets the host write (R110). -/
def paramSelect (b : Byte) (s : State) : State := if waitingHost s then s else { s with win.paramSel := b }

/-- R180: EVT_GSEL; bits [7:6] are ignored. -/
def gselWrite (b : Byte) (s : State) : State :=
  if windowVoid s then raise 0x4F4 s
  else if waitingHost s then s
  else { s with win.gsel := b.toNat % 64 }

/-- R167: PAGE takes the enabled bytes; bits [6:0] stay 0. -/
def pageWrite (w : Word) (be : BitVec 4) (s : State) : State :=
  if windowVoid s then raise 0x4F4 s
  else { s with win.page := mergeBytes s.win.page w be &&& 0xFFFFFF80 }

/-- R180: a W1C write through EVT_GROUP acts on the group selected. -/
def groupClear (mask again : Word) (s : State) : State :=
  if windowVoid s then raise 0x4F4 s
  else if waitingHost s then s
  else clearEvents s.win.gsel mask again s

/-- A byte of MAILBOX, by its offset from 0x20. -/
def mailboxWrite (k : Nat) (b : Byte) (s : State) : State := { s with win.mailbox := smSet 0 k b s.win.mailbox }

/-- Word `k` of MAILBOX. -/
def mailboxWord (k : Nat) (s : State) : Word := bytesWord (fun n => smGet 0 n s.win.mailbox) (4 * k)

/-- R130, R170: the steward serves the host mailbox. -/
def hostServed (s : State) : Bool :=
  running s && s.lcy.quiet.isNone && !s.stw.faulted
    && (s.lcy.shadow == .develop || s.lcy.shadow == .sealed || s.lcy.shadow == .ret)

/-- R169, R170: the byte written to DOORBELL. -/
def doorbell (b : Byte) (s : State) : State :=
  if b != 0xA5 then s
  else if live s && waitingHost s then bootSubmit s
  else if live s && windowVoid s then
    raise 0x408 { s with win.mbx := { valid := true, tag := smGet 0 1 s.win.mailbox, code := 0xA } }
  else if hostServed s && !s.win.mbx.busy then
    { s with
      win.mbx := { busy := true }
      cmd.hostBlk := some ((List.range 16).map fun k => mailboxWord k s)
      twh.copying := true, twh.deaf := s.twh.active }
  else { s with win.mbx.dbLost := true }

/-- First offset and size of the window word that holds offset `p` (R142). -/
def windowSpan (p : Nat) : Nat × Nat := if 0x0C ≤ p ∧ p < 0x14 then (0x0C, 8) else (p / 4 * 4, 4)

/-- The window word at offset `ws` below the aperture (Table 08.1), as a number. -/
def windowWord (ws : Nat) (s : State) : Nat :=
  if 0x20 ≤ ws ∧ ws < 0x60 then (mailboxWord ((ws - 0x20) / 4) s).toNat
  else match ws with
  | 0x00 => Config.idWord.toNat
  | 0x04 => (Config.param s.win.paramSel.toNat).toNat
  | 0x08 => (gstatus s).toNat
  | 0x0C => (evtDigest s).toNat
  | 0x14 => s.win.gsel
  | 0x18 => (latchWord s.win.gsel s).toNat
  | 0x64 => (mbxWord s.win.mbx).toNat
  | 0x70 => s.win.page.toNat
  | _ => 0

/-- R130: the window words that VOID refuses. -/
def voidRefuses (ws : Nat) : Bool := ws == 0x0C || ws == 0x14 || ws == 0x18 || ws == 0x70

/-- R145: the system address of pointer `p`'s aperture word. -/
def apertureAddr (p : Nat) (s : State) : Nat := (s.win.page.toNat + (p - 0x80) / 4 * 4) % 2 ^ 32

/-- R145: an aperture word is applied: it waits for the system port. -/
def apertureApply (a w : Word) (be : BitVec 4) (s : State) : State := { s with twh.aptWrite := some (a, w, be) }

/-- R143: the bytes of one word that a transfer has written, as the word and its byte enables. -/
def partWord (ps : List (Nat × Byte)) : Word × BitVec 4 :=
  ps.foldl (fun (r : Word × BitVec 4) p =>
    (r.1 ||| ((p.2.setWidth 32 : Word) <<< (8 * (p.1 % 4))), setBit r.2 (p.1 % 4) true)) (0, 0)

/-- R143: the bytes written of one word are applied together. -/
def applyPart (s : State) : State :=
  match s.twh.part with
  | [] => s
  | (p, _) :: _ =>
    let (w, be) := partWord s.twh.part
    let ps := s.twh.part
    let s := { s with twh.part := [] }
    if 0x80 ≤ p then apertureApply (BitVec.ofNat 32 (apertureAddr p s)) w be s
    else if 0x70 ≤ p then pageWrite w be s
    else if 0x20 ≤ p then ps.foldl (fun t e => mailboxWrite (e.1 - 0x20) e.2 t) s
    else groupClear w 0 s

/-- Offsets whose bytes wait for their word (R143). -/
def buffered (p : Nat) : Bool := (0x18 ≤ p && p < 0x1C) || (0x20 ≤ p && p < 0x60) || (0x70 ≤ p && p < 0x74) || 0x80 ≤ p

/-- R143, R144: a byte written at offset `p`. -/
def windowByte (p : Nat) (b : Byte) (s : State) : State :=
  if p = 0x04 then paramSelect b s
  else if p = 0x14 then gselWrite b s
  else if p = 0x60 then doorbell b s
  else if buffered p then
    let s := { s with twh.part := s.twh.part ++ [(p, b)] }
    if p % 4 = 3 then applyPart s else s
  else s

/-! ### Single accesses of the host -/

/-- R165: the PARAM selector is written. -/
def execParamSelect (b : Byte) (s : State) : Out := .next (if twhUp s then paramSelect b s else s)

/-- R167: PAGE is written, the bytes that `be` enables. -/
def execPageWrite (w : Word) (be : BitVec 4) (s : State) : Out := .next (if twhUp s then pageWrite w be s else s)

/-- R179, R180: a W1C write through EVT_GROUP, or through EVT.LATCH_g by any port; `again`: the events of the group that
occur in the same core cycle. -/
def execEvtGroupClear (g : Option (Fin 64)) (mask again : Word) (s : State) : Out :=
  .next (
    if !twhUp s then s else
    let s := match g with
      | none => groupClear mask again s
      | some g =>
        if windowVoid s then raise 0x4F4 s
        else if waitingHost s then s
        else clearEvents g.val mask again s
    (List.range 32).foldl (fun t i =>
      if again.getLsbD i then raise (32 * (match g with | some g => g.val | none => t.win.gsel) + i) t else t) s)

/-- R169, R170: a byte is written to DOORBELL. -/
def execDoorbell (b : Byte) (s : State) : Out := .next (if twhUp s then doorbell b s else s)

/-- R145, R146: an aperture word is written; while an earlier one is not complete the target takes none. -/
def execApertureWrite (a : Word) (w : Word) (be : BitVec 4) (s : State) : Out :=
  .next (
    if twhUp s && s.twh.aptWrite.isNone then apertureApply (a &&& 0xFFFFFFFC) w be s else s)

/-- R145: how an aperture access ends in TWH.STATUS. -/
def apertureEnd (r : Reply) (s : State) : State :=
  match r with
  | .err => { s with twh.aptErr := true }
  | .collided => { s with twh.collide := true }
  | _ => s

/-- R145: the aperture write completes through the system port; `hit`: the owner port writes the same word (R269). -/
def execApertureWriteComplete (hit : Bool) (e : Ecc) (s : State) : Out :=
  .next (
    match s.twh.aptWrite with
    | none => s
    | some (a, w, be) =>
      let (r, s) := sysWrite .aperture a.toNat w be hit e { s with twh.aptWrite := none }
      apertureEnd r s)

/-! ### The target (R137 to R149) -/

/-- R137: comparator `n` matches a 7-bit address. -/
def twhMatch (n : Nat) (a : BitVec 7) (s : State) : Bool :=
  let addr := BitVec.ofNat 7 (fld 0x05 (if n = 0 then 0x001 else 0x003) s)
  let mask := BitVec.ofNat 7 (fld 0x05 (if n = 0 then 0x002 else 0x004) s)
  (n == 0 || fld 0x05 0x005 s == 1) && 0x08 ≤ a.toNat && a.toNat < 0x78 && ((a ^^^ addr) &&& mask) == 0

/-- R143: the transfer in progress ends; the bytes of a word written in part are applied. -/
def twhEnd (s : State) : State :=
  let s := applyPart s
  { s with
    twh.active := false, twh.reading := false, twh.wantPtr := false, twh.snap := none, twh.deaf := false
    twh.ack := false }

/-- R138: the comparator fields committed while the bus was busy take effect at the STOP. -/
def applyComparators (s : State) : State :=
  let s1 := s.twh.cmpPend.foldl (fun t p => setFld 0x05 p.1 p.2 t) s
  { s1 with twh.cmpPend := [] }

/-- R138: a committed comparator field. -/
def twhCompare (fid v : Nat) (s : State) : State :=
  if s.twh.busBusy then { s with twh.cmpPend := s.twh.cmpPend ++ [(fid, v)] } else setFld 0x05 fid v s

/-- R139, R57: the address byte after a START or repeated START; `early`: within the time in which the steward copies the
mailbox, if a doorbell was accepted since the last address. -/
def execTwhAddress (a : BitVec 7) (read early : Bool) (s : State) : Out :=
  .next (
    if !(s.rst.phase == .fused || s.rst.phase == .running) || s.sup.modeCur == .shutdown then s else
    let s := { twhEnd s with twh.busBusy := true }
    let m0 := twhMatch 0 a s
    let m1 := twhMatch 1 a s
    if !m0 && !m1 then s else
    let s := usbWakeReason 0x08 s
    let copying := s.twh.copying && early
    let s := { s with twh.copying := copying }
    if copying || !twhUp s || (read && !m0 && fld 0x05 0x006 s == 0) then
      let s := { s with twh.addrNaks := satAdd 0xFFFF s.twh.addrNaks 1, twh.addrNak := true }
      wakeFire .twh s
    else { wakeFire .twh s with
      twh.active := true, twh.reading := read, twh.wantPtr := !read, twh.lastMatch := !m0, twh.ack := true })

/-- R146: the target NAKs a data byte. -/
def twhDataNak (s : State) : State :=
  { s with twh.dataNaks := satAdd 0xFFFF s.twh.dataNaks 1, twh.ack := false }

/-- R147: the quarter that holds the word is changing state. -/
def inTransit (a : Nat) (s : State) : Bool :=
  match memUnit a with | some u => s.mem.transit.getLsbD (4 * u + quarterOf u a) | none => false

/-- R141, R146: the first data byte of a write transfer sets the pointer. -/
def execTwhPointerWrite (b : Byte) (s : State) : Out :=
  .next (
    if !(s.twh.active && !s.twh.reading && s.twh.wantPtr) then s
    else if 0x80 ≤ b.toNat && (inTransit (apertureAddr b.toNat s) s || s.twh.aptWrite.isSome) then twhDataNak s
    else { s with twh.pointer := b, twh.wantPtr := false, twh.ack := true })

/-- R141, R143, R146, R169: a later data byte is written at the pointer. -/
def execTwhWriteByte (b : Byte) (s : State) : Out :=
  .next (
    if !(s.twh.active && !s.twh.reading && !s.twh.wantPtr) then s
    else if s.twh.deaf then { s with twh.ack := false }
    else
      let p := s.twh.pointer.toNat
      if 0x80 ≤ p && s.twh.part.isEmpty && s.twh.aptWrite.isSome then twhDataNak s
      else windowByte p b { s with twh.pointer := s.twh.pointer + 1, twh.ack := true })

/-- R142, R145, R147: the snapshot of the word at offset `ws`; `late`: a fetch from a quarter that is changing state
misses its time. -/
def twhFetch (ws : Nat) (late : Bool) (e : Ecc) (s : State) : Nat × State :=
  if ws < 0x80 then
    if windowVoid s && voidRefuses ws then (0, raise 0x4F4 s) else (windowWord ws s, s)
  else
    let a := apertureAddr ws s
    if late && inTransit a s then (0xFFFFFFFF, raise 0x4B1 { s with twh.late := true })
    else
      let (r, s) := sysRead .aperture a e s
      (r.word.toNat, apertureEnd r s)

/-- R141, R142: a byte is shifted out; the first byte of a word takes its snapshot. `nak`: the host NAKs the byte and the
target drives no further one. -/
def execTwhReadByte (nak late : Bool) (e : Ecc) (s : State) : Out :=
  .next (
    if !(s.twh.active && s.twh.reading) then s
    else if s.twh.deaf then { s with twh.outByte := 0xFF }
    else
      let p := s.twh.pointer.toNat
      let (ws, n) := windowSpan p
      let (v, s) := match s.twh.snap with
        | some (w, m, v) => if w = ws ∧ m = n then (v, s) else twhFetch ws late e s
        | none => twhFetch ws late e s
      { s with
        twh.snap := if p + 1 = ws + n then none else some (ws, n, v)
        twh.outByte := BitVec.ofNat 8 (v / 256 ^ (p - ws))
        twh.pointer := s.twh.pointer + 1, twh.deaf := nak })

/-- R143, R138: a STOP, or a repeated START, ends the transfer. -/
def execTwhStop (again : Bool) (s : State) : Out :=
  .next (
    let s := { twhEnd s with twh.busBusy := again }
    if again then s else applyComparators s)

/-- R148: a START or STOP inside a byte ends the transfer addressed to the target. -/
def execTwhBusError (again : Bool) (s : State) : Out :=
  .next (
    let s := if s.twh.active then raise 0x4B0 { s with twh.busErr := true } else s
    let s := { twhEnd s with twh.busBusy := again }
    if again then s else applyComparators s)

/-- R149: SCL stays low for 25 ms while the target drives SDA low. -/
def execTwhSdaTimeout (s : State) : Out :=
  .next (if s.twh.active then raise 0x4B2 { twhEnd s with twh.sdaRelease := true } else s)

end Sys2Proof.Machine
end

