-- ==== Sys2Proof/Machine/Cfg.lean ====
section
/-! DEFINITION. CFG and CFGL of one configuration field (R241, Table 11.13): the checks that a field's own table gives it,
in the order of Table 08.4, and the effect of its commit. -/

namespace Sys2Proof.Machine

/-! ### Status codes (Table 00.5) -/

/-- A status code with its sub-reason. -/
abbrev Err := Nat × Nat

/-- BADOP. -/
def eBadop (sub : Nat) : Err := (1, sub)
/-- BADARG. -/
def eBadarg (sub : Nat) : Err := (2, sub)
/-- RANGE. -/
def eRange (sub : Nat) : Err := (3, sub)
/-- BUSY. -/
def eBusy (sub : Nat) : Err := (4, sub)
/-- STATE. -/
def eState (sub : Nat) : Err := (5, sub)
/-- NORES. -/
def eNores (sub : Nat) : Err := (6, sub)
/-- CONFLICT. -/
def eConflict (sub : Nat) : Err := (7, sub)
/-- COND. -/
def eCond (sub : Nat) : Err := (8, sub)
/-- TIMEOUT. -/
def eTimeout (sub : Nat) : Err := (9, sub)
/-- LOCKED. -/
def eLocked (sub : Nat) : Err := (0xA, sub)
/-- INTEGRITY. -/
def eIntegrity (sub : Nat) : Err := (0xB, sub)
/-- ABSENT. -/
def eAbsent (sub : Nat) : Err := (0xE, sub)

/-- The first check that fails. -/
def firstErr : List (Bool × Err) → Option Err
  | [] => none
  | (bad, e) :: cs => if bad then some e else firstErr cs

/-! ### Field IDs (check 6, R241) -/

/-- The offsets, below 0x1000, of the words that a block's register tables give as status registers, as closed ranges. -/
def statusRanges (blk : Nat) : List (Nat × Nat) :=
  match blk with
  | 0x01 => [(0x040, 0x054), (0x060, 0x074)]
  | 0x02 => [(0x040, 0x048)]
  | 0x03 => [(0x040, 0x050)]
  | 0x04 => [(0x040, 0x040), (0x100, 0x144)]
  | 0x05 => [(0x040, 0x044)]
  | 0x06 => [(0x040, 0x040)]
  | 0x08 => [(0x040, 0x07C), (0x080, 0x088), (0x090, 0x0A8), (0x400, 0xFFC)]
  | 0x09 => [(0x040, 0x05C), (0x100, 0x150)]
  | 0x0A => [(0x000, 0x800), (0xC00, 0xFFC)]
  | 0x0B => [(0x040, 0x040), (0x080, 0x0BC), (0x400, 0x7FC)]
  | 0x14 => [(0x040, 0x054)]
  | 0x15 => [(0x040, 0x060)]
  | 0x18 => [(0x040, 0x04C)]
  | 0x19 => [(0x040, 0x040)]
  | 0x1A => [(0x040, 0x050)]
  | 0x20 => [(0x040, 0x040), (0x050, 0x05C)]
  | 0x21 => [(0x040, 0x040), (0x050, 0x064)]
  | 0x22 => [(0x040, 0x040), (0x080, 0x0C8), (0x0D0, 0x0D4)]
  | 0x23 => [(0x040, 0x040), (0x080, 0x0C8)]
  | 0x28 => [(0x040, 0x040), (0x060, 0x064)]
  | 0x29 => [(0x040, 0x040)]
  | 0x2A => [(0x040, 0x040)]
  | 0x2B => [(0x040, 0x040)]
  | 0x30 => [(0x040, 0x048), (0x050, 0x054), (0x060, 0x064)]
  | 0x31 => [(0x040, 0x040)]
  | 0x32 => [(0x040, 0x040), (0x048, 0x04C)]
  | 0x38 => [(0x040, 0x044)]
  | 0x39 => [(0x044, 0x048), (0x400, 0x4B8)]
  | 0x3F => [(0x000, 0x0FC), (0x200, 0x210)]
  | _ => if 0x10 ≤ blk ∧ blk ≤ 0x13 then [(0x040, 0x044)] else []

/-- The field ID equals the offset of a status register word. -/
def statusWord (blk fid : Nat) : Bool :=
  fid % 4 == 0 && (statusRanges blk).any fun r => r.1 ≤ fid && fid ≤ r.2

/-- Check 6: the field exists. -/
def fieldErr (blk fid : Nat) : Option Err :=
  if (fieldRow blk fid).isSome then none else some (eBadarg (if statusWord blk fid then 7 else 6))

/-- The field is an action and holds no value. -/
def isAction (blk fid : Nat) : Bool := match fieldRow blk fid with | some r => r.act | none => true

/-- The state in which the field's new value is pending or in force: what the checks are judged against. -/
def withValue (blk fid v : Nat) (s : State) : State := if isAction blk fid then s else commitFld blk fid v s

/-! ### Ranges (check 7) -/

/-- R478, R485, R393: the source or destination an action names is not where it may be. -/
def placeErr (blk fid v : Nat) (s : State) : Option Err :=
  match blk with
  | 0x32 => if (fid == 0x014 || fid == 0x015) && !(v % 4 == 0 && sourceOk v 128 s) then some (eRange 1) else none
  | 0x38 => if 0x010 ≤ fid && fid < 0x014 && !sourceOk v 96 s then some (eRange 1) else none
  | 0x1A => if fid == 0x003 && !(v % 4 == 0 && sourceOk v (4 * s.vault.valid * (if s.vault.open_ then s.vault.chans else vaultC s)) s) then some (eRange 8) else none
  | _ => none

/-- A list of numbers rises strictly. -/
def rising : List Nat → Bool
  | a :: b :: l => decide (a < b) && rising (b :: l)
  | _ => true

/-- A list of numbers does not fall. -/
def notFalling : List Nat → Bool
  | a :: b :: l => decide (a ≤ b) && notFalling (b :: l)
  | _ => true

/-- How many bits of the low 20 are set. -/
def popcount (v : Nat) : Nat := (List.range 20).countP fun k => v.testBit k

/-- The ranges that depend on other fields or on the machine, `t` holding the new value as pending. -/
def rangeBad (blk fid v : Nat) (t s : State) : Bool :=
  let p (f : Nat) : Nat := pend blk f t
  match blk with
  | 0x02 => decide (0x011 ≤ fid ∧ fid ≤ 0x014) && !rising [p 0x014, p 0x013, p 0x012, p 0x011]
  | 0x06 => (fid == 0x009 && p 0x004 + p 0x005 == 0) || (fid == 0x006 && v % 4 != 0)
  | 0x08 => fid == 0x002 && s.lane.lx != .spare
  | 0x14 => fid == 0x011 && v % 2 != 0
  | 0x15 => fid == 0x005 && v % 4 != 0
  | 0x18 => fid == 0x030 && decide (popcount v < 2)
  | 0x22 | 0x23 =>
    let b := fid / 16 * 16
    decide (0x100 ≤ fid) && (fid % 16 == 2 || fid % 16 == 3) && decide (p (b + 3) < p (b + 2))
  | 0x29 => fid % 16 == 9 && v == 1 && fid / 16 % 2 == 0
  | 0x2B => decide (0x010 ≤ fid) && !rising [p 0x010, p 0x011, p 0x012, p 0x013]
  | 0x30 =>
    (decide (0x021 ≤ fid ∧ fid ≤ 0x024) && !notFalling [p 0x021, p 0x022, p 0x023, p 0x024])
    || ((fid == 0x01A || fid == 0x01C) && !decide (p 0x01A < p 0x01C))
    || ((fid == 0x01B || fid == 0x01D) && !decide (p 0x01B < p 0x01D))
  | 0x39 => decide (fid < 0x010) && !gpioFuncOk fid v
  | _ => false

/-- Check 7: the value lies in its range. -/
def rangeErr (blk fid v : Nat) (s : State) : Option Err :=
  match fieldRow blk fid with
  | none => none
  | some r =>
    if !r.accepts v || rangeBad blk fid v (withValue blk fid v s) s then some (eRange 8) else placeErr blk fid v s

/-! ### Life-cycle limits (check 8, R122) -/

/-- The field with value `v` enables a block. -/
def enables (blk fid v : Nat) : Bool :=
  v != 0 &&
  match blk with
  | 0x10 | 0x11 | 0x12 | 0x13 | 0x14 | 0x15 | 0x2A | 0x31 | 0x38 | 0x22 | 0x23 | 0x2B => fid == 0x001
  | 0x18 => fid == 0x001
  | 0x19 => fid == 0x001 || fid == 0x002
  | 0x28 => fid == 0x001 || fid == 0x010 || fid == 0x011
  | 0x29 => fid % 16 == 0
  | 0x30 => fid == 0x010 || fid == 0x011
  | 0x32 => fid == 0x010 || fid == 0x011
  | _ => false

/-- Check 8. -/
def lockedErr (blk fid v : Nat) (s : State) : Option Err :=
  if blk = 0x08 ∧ fid = 0x002 ∧ s.lcy.shadow ≠ .develop then some (eLocked 0)
  else if s.lcy.shadow == .void && enables blk fid v then some (eLocked 6)
  else none

/-! ### State conditions (check 11) -/

/-- An enable field reads 1, in force or pending. -/
def enOrPend (blk fid : Nat) (s : State) : Bool := fld blk fid s == 1 || pend blk fid s == 1

/-- R91: port `k` is to run at the next tick: its EN pends as 1 and, for USB, an alternate setting 1 is or will be selected,
suspended or not (R328), for the ring the node is not off. -/
def portToRun (k : Nat) (s : State) : Bool :=
  pend (portBlk k) 0x001 s == 1 &&
    (k < 4 || (k = 4 && (s.usb.altOut || s.usb.altIn || s.usb.altOutNext || s.usb.altInNext))
      || (k = 5 && s.ring.state != .off))

/-- The rate of port `k` from the next tick on. -/
def portHzNext (k : Nat) (s : State) : Nat := if k = 4 then usbHz s.usb.rateNext else portHz k s

/-- R91: a running port could not go on at mix rate `v`. DEDUCED: so judged also where `v` is the rate in force, to which an
earlier value returns: R91's first paragraph then answers STATE, its second DONE (assumption log 41). -/
def mixBad (v : Nat) (s : State) : Bool :=
  (List.range 6).any fun k =>
    portToRun k s
      && ((pend 0x01 (0x020 + k) s == 1 && portHzNext k s != mixHz v) || !rateOk (portHzNext k s) (mixHz v))

/-- What a committed change makes of context `n`'s record. -/
def ctxAfter (n : Nat) (c : Ctx) : FlowChange → Ctx
  | .cstart m entry code words dbase dlen arg =>
    if m = n then { c with
      st := .running, entry := entry, code := code, words := words, dbase := dbase, dlen := dlen, arg := arg } else c
  | .cstop m release =>
    if m ≠ n then c else if release then {} else if c.st == .free then c else { c with st := .stopped }
  | _ => c

/-- Context `n` once the committed changes are applied: its state and what it is bound to. -/
def pendCtx (n : Nat) (s : State) : Ctx := s.flow.foldl (ctxAfter n) (ctxAt n s)

/-- R198: the pending budgets of the contexts of lane `l` that are to run. -/
def budgetSum (l : Nat) (s : State) : Nat :=
  ((List.range 64).map fun k =>
    if (pendCtx (64 * l + k) s).st == .running then pend 0x08 (0x400 + 64 * l + k) s else 0).sum

/-- R198: the lane's budgets exceed the frame. -/
def overBudget (l : Nat) (s : State) : Bool := 294912 < budgetSum l s

/-- R59: a power mode other than RUN may not be requested. -/
def modeBad (v : Nat) (s : State) : Bool :=
  v != 0 && (!spkIdle s || !hpIdle s || (s.ring.role && s.ring.state == .trained)
    || (v == 1 && pend 0x19 0x001 s == 0 && pend 0x19 0x002 s == 0))

/-- SAR0 delivers input 1, which the headset button needs. -/
def sarGivesOne (s : State) : Bool :=
  pend 0x22 0x001 s == 1 && (List.range (pend 0x22 0x004 s)).any fun j => pend 0x22 (0x010 + j) s % 16 == 1

/-- The state conditions of CLK, PWR, TWC, LANE, MEM and STRM. -/
def stateLow (blk fid v : Nat) (t s : State) : List (Bool × Err) :=
  match blk with
  | 0x01 => [
      (fid == 0x001 && v != 0 && s.rst.ckmode == 1, eState 0),
      (fid == 0x010 && v != 2 && pend 0x01 0x011 s == 1, eState 0),
      (fid == 0x010 && mixBad v s, eState 0),
      (fid == 0x011 && v == 1 && pend 0x01 0x010 s != 2, eState 0),
      (decide (0x020 ≤ fid ∧ fid < 0x024) && v == 1 && pend (0x10 + (fid - 0x020)) 0x003 s == 1, eState 7)]
  | 0x02 => [(fid == 0x001 && modeBad v s, eState 0)]
  | 0x06 => [(fid != 0x002 && s.twc.phase != .idle, eBusy 0)]
  | 0x08 =>
    let n := fid - 0x400
    let lost := s.lane.lost.getLsbD (laneOf n)
    [ (decide (0x400 ≤ fid) && (if lost then v != pend 0x08 fid s else overBudget (laneOf n) t), eNores 1),
      (fid == 0x002 && s.lane.lost.getLsbD (v - 1), eState 1)]
  | 0x09 => [((fid == 0x011 || fid == 0x012) && fld 0x09 0x012 s == 1, eState 1)]
  | 0x0A => [(decide (fid < 0x400) && v != 0 && !brineStoreOn s, eState 1)]
  | 0x31 => [(fid == 0x001 && v == 0 && !spkIdle s, eBusy 0)]
  | _ => []

/-- The sub-reason of a check of an enable, as a condition. -/
def subErr (o : Option Nat) : List (Bool × Err) := match o with | some k => [(true, eState k)] | none => []

/-- The state conditions of the ports, MIC, VAULT and the converters. -/
def statePorts (blk fid v : Nat) (t s : State) : List (Bool × Err) :=
  match blk with
  | 0x10 | 0x11 | 0x12 | 0x13 =>
    if fid = 0x001 then (if v = 1 then subErr (spEnCheck (blk - 0x10) t) else [])
    else [(portEn blk s, eBusy 4)]
  | 0x14 =>
    if fid = 0x001 then (if v = 1 then subErr (usbEnCheck t) else [])
    else [((decide (fid ≤ 0x011) || fid == 0x013) && fld 0x14 0x001 s == 1, eBusy 4)]
  | 0x15 =>
    let trained := s.ring.state == .trained
    [ ((fid == 0x002 || fid == 0x006) && fld 0x15 0x001 s == 1, eBusy 4),
      (fid == 0x001 && v == 1 && pend 0x15 0x002 s == 1 && s.rst.ckmode == 3, eState 1),
      (fid == 0x004 && !(trained && s.ring.role), eState 3),
      (fid == 0x005 && !trained, eState 3),
      (fid == 0x005 && s.ring.sendBusy, eBusy 4),
      (decide (0x100 ≤ fid) && v != 0x3FF
        && (List.range 64).any (fun c => fid != 0x100 + c && pend 0x15 (0x100 + c) s == v), eState 2)]
  | 0x18 => [
      (fid == 0x002 && pdmDivBusy s, eBusy 4),
      (fid == 0x004 && (chEn 3 s || (pend 0x18 0x001 s).testBit 3), eBusy 4)]
  | 0x1A => [(fid == 0x003 && !s.vault.open_, eState 1), (fid == 0x003 && s.vault.exporting.isSome, eBusy 4)]
  | 0x22 | 0x23 =>
    let n := blk - 0x22
    [ ((fid == 0x005 || fid == 0x004 || decide (0x010 ≤ fid ∧ fid < 0x020)) && sarScanBad n t, eState 1),
      (fid == 0x006 && pend blk 0x005 s != 0, eState 3),
      (fid == 0x006 && (sarAt n s).trig, eBusy 5),
      (fid == 0x007 && pend blk 0x001 s == 0, eState 2),
      (fid == 0x007 && (sarAt n s).urgent.isSome, eBusy 5)]
  | _ => []

/-- The state conditions of the outputs, the jack, the speaker stage, Glint and the halo. -/
def stateOut (blk fid v : Nat) (t s : State) : List (Bool × Err) :=
  match blk with
  | 0x28 =>
    let x := fid % 2
    [ ((fid == 0x010 || fid == 0x011) && v == 1 && fld 0x32 (0x010 + x) s == 1, eBusy 6),
      ((fid == 0x012 || fid == 0x013 || fid == 0x016 || fid == 0x017) && rdacEn x s, eBusy 4)]
  | 0x29 =>
    let k := (fid - 0x100) / 16
    [ (toneHeld k s, eBusy 6),
      (fid % 16 == 0 && v == 1 && toneEnBad k t, eState 1),
      (decide (4 ≤ fid % 16) && enOrPend 0x29 (0x100 + 16 * k) s, eBusy 4)]
  | 0x2A => [(fid == 0x006 && fld 0x2A 0x001 s == 1, eBusy 4)]
  | 0x2B => [
      (fid == 0x002 && fld 0x2B 0x001 s == 1, eBusy 4),
      (fid == 0x005 && v == 1 && !sarGivesOne s, eState 1)]
  | 0x30 =>
    let x := fid % 2
    if fid = 0x010 ∨ fid = 0x011 then (if v = 1 then subErr (spkEnCheck x t) else [])
    else [
      ((fid == 0x018 || fid == 0x019) && (spkAt x s).state != .latched, eState 5),
      ((fid == 0x016 || fid == 0x017) && v == 1 && enOrPend 0x29 0x170 s, eBusy 6),
      (fid == 0x001 && (!spkIdle s || spkStartPends s), eBusy 4)]
  | 0x32 => [((fid == 0x010 || fid == 0x011) && v == 1 && rdacEn (fid % 2) s, eBusy 6)]
  | 0x38 => [
      ((fid == 0x002 || fid == 0x003) && fld 0x38 0x001 s == 1, eBusy 4),
      (decide (0x020 ≤ fid) && decide (800 < isinkSum (fid - 0x020) v s), eState 1)]
  | _ => []

/-- R112, Table 05.11: the field's block is in a wrapped reset that an earlier block began; a reset of LANE holds the fields
of its lane's contexts. -/
def cfgInReset (blk fid : Nat) (s : State) : Bool :=
  s.rst.resets.any fun r => r.1 == blk && (blk != 0x08 || (decide (0x400 ≤ fid) && laneOf (fid - 0x400) == r.2.1))

/-- Check 11 of CFG: the state, idle and capacity conditions of the field. -/
def cfgStateErr (blk fid v : Nat) (s : State) : Option Err :=
  let t := withValue blk fid v s
  firstErr ((cfgInReset blk fid s, eBusy 7) :: stateLow blk fid v t s ++ statePorts blk fid v t s ++ stateOut blk fid v t s)

/-! ### Commit -/

/-- The field's value is in force or pending; a pair of timing values equal to the pair in force is no change (R91). -/
def putField (blk fid v : Nat) (s : State) : State :=
  let t := withValue blk fid v s
  if timingKey (fkey blk fid) && !timingPending t then
    { t with flow := t.flow.filter fun c => match c with | .field k _ => !timingKey k | _ => true }
  else t

/-- R354, Table 17.7: the send record at `a` goes to the ring engine; a block's words stand at the record's address. -/
def sendRecord (a : Nat) (s : State) : State :=
  let w := wordAt a s
  let op : SendOp := match bits w 7 0 with | 1 => .block | 2 => .read | 3 => .write | _ => .eject
  let addr := wordAt (a + 4) s
  let words := if op == .block then wordsAt addr.toNat (1 + (wordAt addr.toNat s).toNat % 16) s else []
  ringSend op (BitVec.ofNat 7 (bits w 14 8)) addr (wordAt (a + 8) s) words s

/-- What the commit of a field does at once beside setting it, in CLK to USB. -/
def effectLow (blk fid v was : Nat) (s : State) : State :=
  match blk with
  | 0x01 => if fid = 0x001 ∧ v ≠ 0 then assignBalls (2 ^ 46) s else s
  | 0x02 => if fid = 0x015 ∧ v = 0 then spkLimiter { s with sup.sagStep := 0 } else s
  | 0x06 => if fid = 0x009 then twcStart s else if fid = 0x00A then twcClear s else s
  | 0x08 => if fid = 0x002 then laneInject (v - 1) s else s
  | 0x31 =>
    if fid = 0x001 then boostEnable v s
    else if fid = 0x002 ∧ s.boost.phase ≠ .idle then { s with boost.voutCur := v } else s
  | 0x10 | 0x11 | 0x12 | 0x13 =>
    let n := blk - 0x10
    if fid = 0x001 ∧ v = 1 then occupyPort n (assignBalls (15 * 2 ^ (16 + 4 * n)) s) else s
  | 0x14 =>
    if fid = 0x001 ∧ v = 1 then occupyPort 4 (buildDesc s) else if fid = 0x012 then hidIn was v s
    else if fid = 0x014 then usbWakeReq s else s
  | 0x15 =>
    if fid = 0x001 ∧ v = 1 then occupyPort 5 s
    else if fid = 0x004 then ringCall s else if fid = 0x005 then sendRecord v s else s
  | _ => s

/-- What the commit of a field does at once beside setting it, in the blocks from VAULT on; `was` is the old value. -/
def effectHigh (blk fid v was : Nat) (data : List Byte) (s : State) : State :=
  let x := fid % 2
  match blk with
  | 0x1A => if fid = 0x001 then vaultReseal s else if fid = 0x003 then vaultExport v s else s
  | 0x22 | 0x23 =>
    let n := blk - 0x22
    match fid with
    | 0x001 => sarEnable n v s
    | 0x002 => sarNext n s
    | 0x003 => sarRefbuf n v s
    | 0x006 => sarTrigger n s
    | 0x007 => sarUrgent n (Fin.ofNat 16 v) s
    | _ => s
  | 0x28 =>
    if fid = 0x001 then loutEnable was v s
    else if fid = 0x014 ∨ fid = 0x015 then rdacPush x (BitVec.ofNat 12 v) s else s
  | 0x2A => if fid = 0x001 then hpEnable v s else if fid = 0x004 then hpRailMode v s else s
  | 0x2B => if fid = 0x001 then jackEnable v s else s
  | 0x30 =>
    if fid = 0x010 ∨ fid = 0x011 then spkEnable x was v s
    else if fid = 0x018 ∨ fid = 0x019 then spkRestart x s
    else if fid = 0x014 ∨ fid = 0x015 ∨ (0x021 ≤ fid ∧ fid ≤ 0x024) then spkLimiter s else s
  | 0x32 =>
    if fid = 0x010 ∨ fid = 0x011 then glintEnable x v s
    else if fid = 0x014 ∨ fid = 0x015 then
      let h : Vector (BitVec 16) 64 := Vector.ofFn fun t : Fin 64 => data.getD (2 * t.val + 1) 0 ++ data.getD (2 * t.val) 0
      setGl x { glAt x s with h := h } s
    else if fid = 0x016 ∨ fid = 0x017 then glintPump s else s
  | 0x38 =>
    if fid = 0x001 then haloEnable v s
    else if fid = 0x007 then { s with halo.startDue := true }
    else if 0x010 ≤ fid ∧ fid < 0x014 then haloWritePage (fid - 0x010) data s else s
  | 0x39 =>
    if fid < 0x030 then assignBalls (2 ^ (fid % 16)) s
    else if fid = 0x041 then gpioOut true v s else if fid = 0x042 then gpioOut false v s else s
  | _ => s

/-- The bytes that the field's action reads at validation (R477, R485). -/
def cfgData (blk fid v : Nat) (s : State) : List Byte :=
  if blk = 0x32 ∧ (fid = 0x014 ∨ fid = 0x015) then srcBytes v 32 s
  else if blk = 0x38 ∧ 0x010 ≤ fid ∧ fid < 0x014 then srcBytes v 24 s
  else []

/-- CFG commits: the field takes its value and its effect on commit happens. -/
def commitCfg (blk fid v : Nat) (data : List Byte) (s : State) : State :=
  if blk = 0x05 ∧ fid ≤ 0x006 then twhCompare fid v s
  else
    let was := fld blk fid s
    let s := if blk = 0x28 ∧ (fid = 0x010 ∨ fid = 0x011) then rdacEnable (fid % 2) v s else s
    effectHigh blk fid v was data (effectLow blk fid v was (putField blk fid v s))

end Sys2Proof.Machine
end

