-- ==== Sys2Proof/Machine/Encoding.lean ====
section
/-! DEFINITION. The encodings that command blocks and lane images hold: which Slaso words are valid (R210 to R229, R230,
R240), the checks that LOAD applies to each code word (R204, R229), and the steward-only words of a block (R239, R240). -/

namespace Sys2Proof.Machine

/-- Field `[hi:lo]` of an instruction word. -/
def fieldOf (w : Word) (hi lo : Nat) : Nat := (w.toNat / 2 ^ lo) % 2 ^ (hi + 1 - lo)

/-- Field `[hi:lo]` is 0. -/
def isZero (w : Word) (hi lo : Nat) : Bool := fieldOf w hi lo == 0

/-- The major opcode (R210). -/
def majorOp (w : Word) : Nat := fieldOf w 31 26

/-! ### Lane-profile and shared words (R211 to R227, R230) -/

/-- R214: a valid QALU word (opcode 0x01). -/
def okQalu (w : Word) : Bool :=
  let fn := fieldOf w 10 6
  let sub0 := isZero w 5 0
  if fn = 0 then w == 0x04000000
  else if [0x01, 0x02, 0x03, 0x04, 0x07, 0x08, 0x09, 0x0A, 0x0B, 0x0C, 0x0D, 0x14, 0x15].contains fn then sub0
  else if [0x05, 0x06, 0x0E, 0x17].contains fn then sub0 && isZero w 15 11
  else if [0x10, 0x11, 0x12, 0x13].contains fn then isZero w 15 11 && isZero w 5 5
  else if fn = 0x16 then isZero w 15 11 && isZero w 5 5 && !sub0
  else if fn = 0x18 then isZero w 25 11 && sub0
  else fn == 0x19 && isZero w 20 11 && sub0

/-- R215: a valid FALU word (opcode 0x02). -/
def okFalu (w : Word) : Bool :=
  let fn := fieldOf w 10 6
  if [0x01, 0x02, 0x03, 0x04, 0x05, 0x07, 0x08].contains fn then isZero w 5 0
  else if [0x06, 0x09, 0x0A, 0x12, 0x13].contains fn then isZero w 5 0 && isZero w 15 11
  else (fn == 0x10 || fn == 0x11) && isZero w 15 11 && isZero w 5 5

/-- R222: a valid CMP word (opcode 0x03). -/
def okCmp (w : Word) : Bool :=
  let cc := fieldOf w 13 10
  isZero w 5 0 && fieldOf w 7 6 != 3 && (isZero w 8 8 || isZero w 18 14)
    && (if isZero w 9 9 then decide (cc ≤ 7) else decide (cc ≤ 5) || cc == 8)

/-- R223: a valid PRED word (opcode 0x04). -/
def okPred (w : Word) : Bool :=
  let pfn := fieldOf w 19 17
  let noQd := isZero w 25 24
  let noQs := isZero w 23 22
  let noQt := isZero w 21 20
  let noV := isZero w 16 12
  let noImm := isZero w 0 0
  isZero w 11 1 &&
  (if pfn = 0 then noQs && noQt && noV
   else if pfn ≤ 4 then noV && noImm
   else if pfn = 5 then noQt && noV && noImm
   else if pfn = 6 then noQd && noQt && noImm
   else noQs && noQt && noImm)

/-- R216: a valid MOVE word (opcode 0x05). -/
def okMove (w : Word) : Bool :=
  match fieldOf w 10 6 with
  | 0 => isZero w 15 11 && isZero w 5 0
  | 1 => isZero w 5 2
  | 2 => isZero w 20 11 && isZero w 5 3
  | 3 => isZero w 20 11 && isZero w 5 3
  | 4 => isZero w 20 11 && isZero w 5 1
  | 5 => isZero w 5 0
  | _ => false

/-- R219: a valid ACC word (opcode 0x09). -/
def okAcc (w : Word) : Bool :=
  match fieldOf w 10 6 with
  | 0 => isZero w 20 11 && isZero w 5 2
  | 1 => isZero w 20 11
  | 2 => isZero w 25 11 && isZero w 5 2
  | 3 => isZero w 25 21 && isZero w 15 11 && isZero w 5 2
  | 4 => isZero w 25 21 && isZero w 15 11 && isZero w 5 2
  | 5 => isZero w 25 11 && isZero w 5 4
  | _ => false

/-- R221: a valid BFLY word (opcode 0x0D). -/
def okBfly (w : Word) : Bool :=
  isZero w 10 6 && isZero w 5 1 && isZero w 21 21 && isZero w 16 16 && isZero w 11 11
    && fieldOf w 25 21 != fieldOf w 20 16

/-- R226: a valid PTR word (opcode 0x14). -/
def okPtr (w : Word) : Bool :=
  match fieldOf w 17 16 with
  | 2 => isZero w 22 18 && isZero w 1 0
  | 3 => isZero w 22 18
  | _ => true

/-- R227: a valid LOOP word (opcode 0x18); an END of 0 is beyond no LOOP's own offset. -/
def okLoop (w : Word) : Bool :=
  isZero w 25 25 && !isZero w 13 0 && (if isZero w 24 24 then !isZero w 23 14 else isZero w 18 14)

/-- A valid word of the lane profile, the shared words included (R210, R230). -/
def laneWord (w : Word) : Bool :=
  match majorOp w with
  | 0x01 => okQalu w | 0x02 => okFalu w | 0x03 => okCmp w | 0x04 => okPred w | 0x05 => okMove w
  | 0x06 => true
  | 0x07 => isZero w 20 16
  | 0x08 => isZero w 3 3 || (isZero w 13 4 && isZero w 2 2)
  | 0x09 => okAcc w
  | 0x0A => isZero w 15 0 && fieldOf w 23 21 != fieldOf w 20 18
  | 0x0B => isZero w 20 16
  | 0x0C => isZero w 9 0 && fieldOf w 15 13 != fieldOf w 12 10
  | 0x0D => okBfly w
  | 0x10 => fieldOf w 17 16 != 1 || isZero w 21 21
  | 0x11 => fieldOf w 17 16 != 1 || isZero w 21 21
  | 0x14 => okPtr w
  | 0x18 => okLoop w
  | 0x19 => isZero w 25 0
  | 0x20 => isZero w 17 10
  | 0x21 => isZero w 17 10
  | 0x22 => isZero w 10 10
  | 0x23 => isZero w 10 10
  | 0x24 => isZero w 17 10 && isZero w 25 23
  | 0x25 => isZero w 25 0
  | 0x26 => isZero w 25 0
  | 0x27 => isZero w 25 0
  | 0x28 => isZero w 25 17
  | 0x29 => isZero w 23 17
  | 0x2A => isZero w 23 17
  | 0x2B => isZero w 25 17
  | 0x2C => isZero w 25 21 && isZero w 15 0
  | _ => false

/-! ### Steward-only words (R240, Table 11.8) -/

/-- A valid steward-only word; CFGL counts in both forms. -/
def stwWord (w : Word) : Bool :=
  match majorOp w with
  | 0x38 => isZero w 25 20
  | 0x39 => isZero w 21 10 && decide (1 ≤ fieldOf w 25 22) && decide (fieldOf w 25 22 ≤ 3)
  | 0x3A => fieldOf w 25 24 != 3 || isZero w 23 10
  | 0x3B => isZero w 25 21 && isZero w 11 2 && fieldOf w 1 0 != 3
  | 0x3C => true
  | 0x3D => if isZero w 7 7 then isZero w 6 0 else isZero w 6 5
  | 0x3E => fieldOf w 25 22 == 1 || fieldOf w 25 22 == 2
  | 0x3F => match fieldOf w 25 24 with
    | 0 => isZero w 17 16
    | 1 => decide (1 ≤ fieldOf w 23 20) && decide (fieldOf w 23 20 ≤ 4) && isZero w 19 12
        && (fieldOf w 23 20 == 3 || isZero w 11 0)
    | 2 => decide (1 ≤ fieldOf w 23 20) && decide (fieldOf w 23 20 ≤ 5) && isZero w 18 16
    | _ => false
  | _ => false

/-- How many literal words follow a steward-only word. -/
def litCount (w : Word) : Nat :=
  match majorOp w with
  | 0x38 => 1
  | 0x39 => if fieldOf w 25 22 = 1 then 1 else 0
  | 0x3D => 1
  | 0x3F => if fieldOf w 25 24 = 1 then (match fieldOf w 23 20 with | 2 => 2 | 3 => 1 | 4 => 1 | _ => 0) else 0
  | _ => 0

/-- The operation that a valid steward-only word names, with the literal words that follow it. -/
def stwOp (w lit lit2 : Word) : StwOp :=
  let ctx := fieldOf w 9 0
  match majorOp w with
  | 0x38 => .load (4 * fieldOf w 19 0) lit.toNat
  | 0x39 => match fieldOf w 25 22 with
    | 1 => .cstart ctx lit.toNat | 2 => .cstop ctx false | _ => .cstop ctx true
  | 0x3A =>
    let r : RouteRole := match fieldOf w 25 24 with | 0 => .writer | 1 => .reader | 2 => .unread | _ => .free
    .route r (fieldOf w 23 20) (fieldOf w 19 10) (fieldOf w 9 0)
  | 0x3B =>
    let st : BankPower := match fieldOf w 1 0 with | 0 => .on | 1 => .retain | _ => .off
    .bankpwr (fieldOf w 20 16) (fieldOf w 15 12) st
  | 0x3C => .cfg (fieldOf w 25 20) (fieldOf w 19 8) (fieldOf w 7 0)
  | 0x3D => .cfg (fieldOf w 25 20) (fieldOf w 19 8) lit.toNat
  | 0x3E =>
    if fieldOf w 25 22 = 1 then .claim (fieldOf w 21 16) (fieldOf w 15 0) else .release (fieldOf w 21 16) (fieldOf w 15 0)
  | _ => match fieldOf w 25 24 with
    | 0 => .breset (fieldOf w 23 18) (fieldOf w 15 0)
    | 1 => match fieldOf w 23 20 with
      | 1 => .seal | 2 => .writeToken (lit2 ++ lit) | 3 => .fuseWrite (fieldOf w 11 0) lit | _ => .voidReq lit
    | _ => .calrun (fieldOf w 23 20) (!isZero w 19 19) (fieldOf w 15 0)

/-- R239: a block word's operation and how many indices it occupies; `lits` are the words that follow it. The status and
sub-reason of check 2 or 3 of Table 08.4 where it has none. -/
def blockWord (w : Word) (lits : List Word) : Except (Nat × Nat) (StwOp × Nat) :=
  if w = 0x04000000 then .ok (.nop, 1)
  else if laneWord w then .error (1, 2)
  else if !stwWord w then .error (1, 1)
  else if majorOp w = 0x3D ∧ !isZero w 7 7 then .error (1, 2)
  else if lits.length < litCount w then .error (2, 0xE)
  else .ok (stwOp w (lits.getD 0 0) (lits.getD 1 0), 1 + litCount w)

/-! ### LOAD's decode checks (R204 checks 9 to 11, R229) -/

/-- R229: the word may not be the END of a loop. -/
def endBarred (w : Word) : Bool :=
  [0x18, 0x19, 0x26, 0x27, 0x28, 0x29, 0x2A, 0x2B, 0x2C].contains (majorOp w)

/-- Checks 9 to 11 of Table 09.6 on word `w` at offset `k` of an image of `n` words, of which `ends` are the ENDs of
earlier LOOPs: the status and sub-reason of the first that fails. -/
def codeWordErr (w : Word) (k n : Nat) (ends : List Nat) : Option (Nat × Nat) :=
  if stwWord w then some (1, 4)
  else if !laneWord w then some (1, 3)
  else if ends.contains k && endBarred w then some (1, 3)
  else if majorOp w = 0x18 then
    let e := fieldOf w 13 0
    if e ≤ k then some (1, 3) else if n ≤ e then some (3, 0xA) else none
  else if [0x28, 0x29, 0x2A, 0x2B].contains (majorOp w) && decide (n ≤ fieldOf w 16 0) then some (3, 0xA)
  else none

/-- Checks 9 to 11 word by word from offset `k`: the first failure with its offset. -/
def codeErr (n : Nat) : List Word → Nat → List Nat → Option (Nat × Nat × Nat)
  | [], _, _ => none
  | w :: ws, k, ends =>
    match codeWordErr w k n ends with
    | some e => some (e.1, e.2, k)
    | none => codeErr n ws (k + 1) (if majorOp w = 0x18 then fieldOf w 13 0 :: ends else ends)

end Sys2Proof.Machine
end

