-- ==== Sys2Proof/Machine/Cmd.lean ====
section
/-! DEFINITION. The steward-only instructions (R239 to R251): what each touches, its checks in the order of Table 08.4,
what its perform phase finds, and its effect at commit. -/

namespace Sys2Proof.Machine

/-- The first error of a list. -/
def firstSome : List (Option Err) → Option Err
  | [] => none
  | some e :: _ => some e
  | none :: es => firstSome es

/-! ### Lane images and start records (R203, R204, R244) -/

/-- Word `k` of the lane image header at `a`. -/
def hdrWord (a k : Nat) (s : State) : Nat := (srcWord (a + 4 * k) s).toNat

/-- R204, Table 09.6: checks 1 to 5 of a LOAD. -/
def loadEarly (dst src : Nat) (s : State) : Option Err :=
  let h (k : Nat) := hdrWord src k s
  let cw := h 2
  let cwOk : Bool := 1 ≤ cw && cw ≤ 16384
  firstErr [
    (src % 4 != 0 || !sourceOk src (if cwOk then 32 + 4 * cw else 32) s || !sourceOk src 32 s, eRange 1),
    (h 0 != 0x51A50001 || h 1 != 1, eBadarg 3),
    (!cwOk || decide (cw ≤ h 3) || h 4 % 4 != 0 || decide (262144 < h 4) || h 7 != 0, eRange 4),
    (h 5 != 0 && h 5 != 0x9440, eAbsent 4),
    (dst % 4 != 0 || decide (0x400000 < dst + 4 * cw) || dst / 0x40000 != (dst + 4 * cw - 1) / 0x40000, eRange 2)]

/-- The ranges `[a, a + n)` and `[b, b + m)` overlap. -/
def overlaps (a n b m : Nat) : Bool := a < b + m && b < a + n

/-- Check 7 of Table 09.6: the range is bound to a context that is not FREE. -/
def boundRange (a n : Nat) (s : State) : Bool :=
  let hit (c : Ctx) : Bool := c.st != .free && (overlaps a n c.code (4 * c.words) || overlaps a n c.dbase c.dlen)
  (s.lane.ctx.map (·.1) ++ s.flow.filterMap (fun c => match c with | .cstart m .. => some m | _ => none)).any
    fun m => hit (pendCtx m s)

/-- Checks 6 and 7 of Table 09.6. -/
def loadState (dst words : Nat) (s : State) : Option Err :=
  firstErr [(!rangeOn dst (4 * words) s, eState 1), (boundRange dst (4 * words) s, eState 2)]

/-- The verified region that starts at `a`. -/
def regionAt (a : Nat) (s : State) : Option Region := s.lane.regions.find? (·.base == a)

/-- The range lies in the bank of logical lane `l`. -/
def inBank (l a n : Nat) : Bool := l * 0x40000 ≤ a && a + n ≤ (l + 1) * 0x40000

/-- R206: RANGE 0x5, the data window; DATA_MIN is judged where the region is verified. -/
def windowBad (ctx code dbase dlen : Nat) (s : State) : Bool :=
  dbase % 4 != 0 || dlen % 4 != 0 || !inBank (laneOf ctx) dbase dlen
    || (match regionAt code s with | some r => decide (dlen < r.dataMin) | none => false)

/-- R206, R198, R260: the state conditions of CSTART. -/
def cstartState (ctx code : Nat) (s : State) : Option Err :=
  let l := laneOf ctx
  firstErr [
    ((match regionAt code s with | some r => !inBank l r.base (4 * r.words) | none => true), eState 3),
    ((pendCtx ctx s).st == .running, eState 4),
    (s.lane.lost.getLsbD l
      || decide (294912 < budgetSum l (addFlow (.cstart ctx 0 0 0 0 0 0) s)), eNores 1)]

/-! ### What a word touches (R177, R242 to R250) -/

/-- The whole block. -/
def wholeUnit : Nat := 0xFFFF

/-- The MEM unit that holds `a`. -/
def memRes (a : Nat) : List (Nat × Nat) := match memUnit a with | some u => [(0x09, u)] | none => []

/-- R177: what a CFG touches. -/
def cfgTouches (blk fid v : Nat) (s : State) : List (Nat × Nat) :=
  if blk = 0x08 ∧ 0x400 ≤ fid then [(0x08, fid - 0x400)]
  else if blk = 0x0A then
    let n := fid % 0x400
    (0x0A, n) :: (if fid < 0x400 then
      (if pend 0x0A fid s = 0 then [] else [(0x0B, pend 0x0A fid s - 1)]) ++ (if v = 0 then [] else [(0x0B, v - 1)]) else [])
  else [(blk, wholeUnit)]

/-- The block that a CALRUN kind touches. -/
def calBlock (kind unit : Nat) : Nat :=
  match kind with | 1 => 0x22 + unit | 2 => 0x21 | 5 => 0x18 | _ => 0x20

/-- The claim units that a word touches, the whole block as 0xFFFF. -/
def touches (o : StwOp) (s : State) : List (Nat × Nat) :=
  match o with
  | .nop => []
  | .load dst src => memRes dst ++ memRes src
  | .loadAt dst src .. => memRes dst ++ memRes src
  | .cstart n _ => [(0x08, n)]
  | .cstartAt n .. => [(0x08, n)]
  | .cstop n _ => [(0x08, n)]
  | .route .free _ _ n =>
    let x := smGet {} n (pendStreams s)
    (0x0A, n) :: ((match x.writer with | some e => [endpointOwner e.1 e.2] | none => [])
      ++ x.readers.map fun e => endpointOwner e.1 e.2)
  | .route _ k i n => [(0x0A, n), endpointOwner k i]
  | .bankpwr u .. => [(0x09, u)]
  | .cfg b f v => cfgTouches b f v s
  | .cfgAt b f v _ => cfgTouches b f v s
  | .claim b u => [(b, u)]
  | .release b u => [(b, u)]
  | .breset b u => if b = 0x08 then (List.range 64).map fun k => (0x08, 64 * u + k) else [(b, u)]
  | .seal => [(0x04, wholeUnit)]
  | .writeToken _ => [(0x04, wholeUnit)]
  | .fuseWrite .. => [(0x04, wholeUnit)]
  | .voidReq _ => [(0x04, wholeUnit)]
  | .calrun k _ u => [(calBlock k u, wholeUnit)]

/-- Two claim units have something in common. -/
def meets (a b : Nat × Nat) : Bool := a.1 == b.1 && (a.2 == b.2 || a.2 == wholeUnit || b.2 == wholeUnit)

/-- Check 9: another source has a claim on what the word touches. -/
def claimed (src : Source) (o : StwOp) (s : State) : Bool :=
  (touches o s).any fun r => s.cmd.claims.any fun c => c.1 != src && meets r c.2

/-- Check 10: a block of another source that is in its perform phase touches what the word touches. -/
def heldBy (src : Source) (o : StwOp) (s : State) : Bool :=
  s.cmd.jobs.any fun j => j.src != src && j.copies.isEmpty
    && j.ops.any fun p => (touches p.2 s).any fun r => (touches o s).any (meets r)

/-! ### Checks 4 to 8 -/

/-- Table 08.6: the unit exists in the block. -/
def claimUnitOk (blk u : Nat) : Bool :=
  u == wholeUnit || match blk with
    | 0x08 => decide (u < 1024) | 0x0A => decide (u < 1024) | 0x0B => decide (u < 16) | 0x09 => decide (u ≤ 22)
    | _ => false

/-- Table 05.9: the block takes no block reset. -/
def noReset (blk : Nat) : Bool := [0x01, 0x02, 0x04, 0x05, 0x0A, 0x0B, 0x19, 0x1A, 0x3F].contains blk

/-- R248, R285: the unit of a BRESET. -/
def bresetUnitOk (blk u : Nat) : Bool :=
  match blk with
  | 0x08 => decide (u < 16)
  | 0x09 => decide (u ≤ 22) && u != 21
  | _ => u == wholeUnit

/-- Table 11.12: how many units a CALRUN kind has. -/
def calUnits (kind : Nat) : Nat := match kind with | 1 => 2 | 2 => 6 | 3 => 4 | 4 => 4 | _ => 2

/-- R123: LCYREQ from this source is locked whatever the state. -/
def lcySourceBad (src : Source) (s : State) : Bool :=
  src == .ring || (src == .steward && s.lcy.shadow != .fab)

/-- R123, Table 06.3: the operation is allowed in this state. -/
def lcyLocked (src : Source) (allowed : List Life) (s : State) : Option Err :=
  firstErr [(lcySourceBad src s, eLocked 2), (!allowed.contains s.lcy.shadow, eLocked 0)]

/-- Checks 4 to 8 of Table 08.4. -/
def earlyErr (src : Source) (o : StwOp) (s : State) : Option Err :=
  let stw : Bool := src == .steward
  match o with
  | .nop => none
  | .load dst a => loadEarly dst a s
  | .loadAt .. => none
  | .cstart n rec =>
    let w (k : Nat) := hdrWord rec k s
    firstErr [(rec % 4 != 0 || !sourceOk rec 16 s, eRange 1), (windowBad n (w 0) (w 1) (w 2) s, eRange 5)]
  | .cstartAt .. => none
  | .cstop .. => none
  | .route .free .. => none
  | .route r k i _ => firstErr [
      (kindCount k == 0, eBadarg 5),
      (!(if r == .writer then kindWrites k else kindReads k), eBadarg 8),
      (decide (kindCount k ≤ i), eRange 6)]
  | .bankpwr u m _ => firstErr [
      (decide (21 ≤ u), eBadarg 5),
      (m == 0 || (decide (16 < u) && m != 15), eBadarg 9)]
  | .cfg b f v =>
    if !blockListed b then some (eBadarg 0)
    else firstSome [fieldErr b f, rangeErr b f v s, lockedErr b f v s]
  | .cfgAt .. => none
  | .claim b u => firstErr [(!blockListed b, eBadarg 0), (!claimUnitOk b u, eBadarg 5), (stw, eLocked 2)]
  | .release b u => firstErr [(!blockListed b, eBadarg 0), (!claimUnitOk b u, eBadarg 5), (stw, eLocked 2)]
  | .breset b u => firstErr [(!blockListed b, eBadarg 0), (noReset b, eBadarg 3), (!bresetUnitOk b u, eBadarg 5)]
  | .seal => lcyLocked src [.develop] s
  | .writeToken _ => lcyLocked src [.sealed] s
  | .fuseWrite i _ =>
    if !(decide (i ≤ 0x02E) || decide (0x040 ≤ i ∧ i ≤ 0x04F)) then some (eRange 9) else lcyLocked src [.fab, .develop] s
  | .voidReq c => if c != 0x564F4944 then some (eRange 0xB) else lcyLocked src [.fab, .develop, .sealed, .ret] s
  | .calrun k force u => firstErr [(decide (calUnits k ≤ u), eRange 6), (force && k != 4, eRange 0xC)]

/-! ### Checks 9 and 10 -/

/-- The source holds a claim on the whole of a block. -/
def holds (src : Source) (blk : Nat) (s : State) : Bool := s.cmd.claims.contains (src, blk, wholeUnit)

/-- Check 9: claims of others, and the claim that LCYREQ and BRESET of RST need; the steward's program is not bound. -/
def claimErr (src : Source) (o : StwOp) (s : State) : Option Err :=
  if src == .steward then none
  else if claimed src o s then some (eConflict 0)
  else
    let need (blk : Nat) : Option Err := if holds src blk s then none else some (eConflict 1)
    match o with
    | .breset 0x03 _ => need 0x03
    | .seal => need 0x04
    | .writeToken _ => need 0x04
    | .fuseWrite .. => need 0x04
    | .voidReq _ => need 0x04
    | _ => none

/-- Check 10. -/
def holdErr (src : Source) (o : StwOp) (s : State) : Option Err := if heldBy src o s then some (eBusy 1) else none

/-! ### Check 11 -/

/-- R246: the routes that exist already, so that the word changes nothing. -/
def routeNoop (r : RouteRole) (k i n : Nat) (s : State) : Bool :=
  let x := smGet {} n (pendStreams s)
  match r with
  | .writer => x.writer == some (k, i)
  | .reader => x.readers.contains (k, i)
  | .unread => false
  | .free => x.writer.isNone && x.readers.isEmpty

/-- R246: the state conditions of ROUTE. -/
def routeState (r : RouteRole) (k i n : Nat) (s : State) : Option Err :=
  let m := pendStreams s
  let x := smGet {} n m
  if routeNoop r k i n s then none else
  match r with
  | .writer => firstErr [(x.writer.isSome, eState 7), (k != 1 && (writesOf (k, i) m).isSome, eState 0xB)]
  | .reader => firstErr [
      (k != 1 && (readsOf (k, i) m).isSome, eState 0xC),
      (decide (8 ≤ x.readers.length), eNores 3)]
  | .unread => firstErr [(!x.readers.contains (k, i), eState 0xD)]
  | .free => none

/-- The quarters of unit `u` that a BANKPWR mask selects. -/
def maskQuarters (u m : Nat) : List Nat := if u ≤ 16 then (List.range 4).filter fun q => m.testBit q else [0]

/-- R206: the bank range is in use by a context that runs or is to run. -/
def runsIn (a n : Nat) (s : State) : Bool :=
  let hit (c : Ctx) : Bool := c.st == .running && (overlaps a n c.code (4 * c.words) || overlaps a n c.dbase c.dlen)
  (s.lane.ctx.any fun p => hit p.2)
    || s.flow.any fun c => match c with | .cstart m .. => hit (pendCtx m s) | _ => false

/-- R247: the bank's owner uses it; for the Brine store judged on pending memberships (14_streams_and_brine, Corners). -/
def ownerUses (u : Nat) (s : State) : Bool :=
  match u with
  | 17 => true
  | 18 => anyMemberPending s
  | 19 => (List.range 6).any fun k => portEn (0x10 + k) s
  | 20 =>
    fld 0x19 0x001 s != 0 || fld 0x19 0x002 s != 0 || pend 0x19 0x001 s != 0 || pend 0x19 0x002 s != 0
      || s.vault.open_ || s.vault.exporting.isSome
  | _ => onLx u s

/-- R247: the state conditions of BANKPWR. -/
def bankState (u m : Nat) (st : BankPower) (s : State) : Option Err :=
  let leaving := (maskQuarters u m).filter fun q => bankSet u q s == .on && st != .on
  firstErr [
    (leaving.any (fun q => let r := quarterRange u q; runsIn r.1 (r.2 - r.1) s), eState 5),
    (!leaving.isEmpty && ownerUses u s, eState 6)]

/-- R111, Table 05.10: a quiesce-first block is idle. -/
def quiesced (blk u : Nat) (s : State) : Bool :=
  match blk with
  | 0x09 => memIdle u s
  | 0x30 => spkIdle s
  | 0x31 => boostIdle s
  | 0x2A => hpIdle s
  | _ => true

/-- R250, R401, R402, R381: the state conditions of CALRUN. -/
def calState (k : Nat) (force : Bool) (u : Nat) (s : State) : Option Err :=
  let read := micRead u (pendStreams s)
  match k with
  | 3 => firstErr [(read, eBusy 3), (arrayHas u s, eBusy 3)]
  | 4 => firstErr [(arrayHas u s, eBusy 3), (read && !force, eBusy 3)]
  | 5 => firstErr [((spkAt u s).state != .running, eState 0xE), (fld 0x29 0x160 s == 1, eBusy 3)]
  | _ => none

/-- Check 11: the state, idle and capacity conditions of a word. -/
def stateErr (src : Source) (o : StwOp) (s : State) : Option Err :=
  match o with
  | .nop => none
  | .load dst a => loadState dst (hdrWord a 2 s) s
  | .loadAt dst _ words .. => loadState dst words s
  | .cstart n rec => cstartState n (hdrWord rec 0 s) s
  | .cstartAt n code .. => cstartState n code s
  | .cstop n release => firstErr [
      ((pendCtx n s).st == .free, eState 9),
      (release && (pendStreams s).any (fun p => p.2.writer == some (1, n) || p.2.readers.contains (1, n)), eState 0xA)]
  | .route r k i n => routeState r k i n s
  | .bankpwr u m st => bankState u m st s
  | .cfg b f v => cfgStateErr b f v s
  | .cfgAt b f v _ => cfgStateErr b f v s
  | .claim b u =>
    if s.cmd.claims.contains (src, b, u) then none
    else if 64 ≤ s.cmd.claims.countP (·.1 == src) then some (eNores 2) else none
  | .release b u => if s.cmd.claims.contains (src, b, u) then none else some (eState 8)
  | .breset b u => if quiesced b u s then none else some (eBusy 2)
  | .seal => if keySet s then none else some (eState 1)
  | .writeToken _ => if s.lcy.tokenHash.isSome then some (eState 3) else none
  | .fuseWrite .. => none
  | .voidReq _ => none
  | .calrun k force u => calState k force u s

/-! ### Check 12, and all checks of a word -/

/-- R123, R248: the word must be the last of its block. -/
def mustBeLast (o : StwOp) : Bool :=
  match o with | .seal => true | .voidReq _ => true | .breset 0x03 _ => true | _ => false

/-- R172: the checks 4 to 12 of a word, in order. -/
def wordErr (src : Source) (o : StwOp) (last : Bool) (s : State) : Option Err :=
  firstSome [earlyErr src o s, claimErr src o s, holdErr src o s, stateErr src o s,
    if mustBeLast o && !last then some (eBadarg 4) else none]

/-! ### Perform phases (R173, R204, R250) -/

/-- The word has a perform phase. -/
def needsPerform (o : StwOp) : Bool :=
  match o with | .load .. => true | .loadAt .. => true | .seal => true | .calrun .. => true | _ => false

/-- What validation read from memory stays with the word (R204, R244, R477, R485). -/
def capture (o : StwOp) (s : State) : StwOp :=
  match o with
  | .load dst src => .loadAt dst src (hdrWord src 2 s) (hdrWord src 3 s) (hdrWord src 4 s)
  | .cstart n rec => .cstartAt n (hdrWord rec 0 s) (hdrWord rec 1 s) (hdrWord rec 2 s) (srcWord (rec + 12) s)
  | .cfg b f v => if (cfgData b f v s).isEmpty then .cfg b f v else .cfgAt b f v (cfgData b f v s)
  | o => o

/-- The bytes of a list of words. -/
def wordBytes (ws : List Word) : List Byte := ws.flatMap leBytes

/-- R204: checks 8 to 11 on the image at `src` of `n` code words: the error, and the offset of a failing code word. -/
def imageErr (src n : Nat) (s : State) : Option (Err × Option Nat) :=
  let ws := srcWords (src + 32) n s
  if crc32 (wordBytes ws) != srcWord (src + 24) s then some (eIntegrity 6, none)
  else match codeErr n ws 0 [] with
    | some (c, sub, k) => some ((c, sub), some k)
    | none => none

/-- R403: the self-test's result is out of bounds. -/
def selftestBad (r : PerfRes) : Bool :=
  let level := r.vals.getD 0 0
  level < -50 || 50 < level || r.vals.getD 1 0 < 80

/-- R282: SEAL's slot check reads both slots. -/
def slotEcc (s : State) : State := imgEcc 0x2080000 (imgEcc 0x2000000 s)

/-- How the perform phase of a word ends, `none` when it passes (R173, R204, R250). -/
def perfErr (o : StwOp) (r : PerfRes) (s : State) : Option Err :=
  if r.timeout then some (eTimeout 1) else
  match o with
  | .loadAt _ src n .. => (imageErr src n s).map (·.1)
  | .seal =>
    let s := slotEcc s
    if (imgOk s false r.aOk).isNone || (imgOk s true r.bOk).isNone then none else some (eState 2)
  | .calrun 1 _ u => if sarRefHold u s then some (eTimeout 1) else none
  | .calrun 3 _ _ => if r.sub = 5 then some (eCond 5) else none
  | .calrun 4 _ _ => if selftestBad r then some (eCond 6) else none
  | .calrun 5 _ u =>
    if s.mic.arrayLost || (spkAt u s).state != .running then some (eState 0xE)
    else if 1 ≤ r.sub ∧ r.sub ≤ 4 then some (eCond r.sub) else none
  | _ => none
where
  /-- A slot's image, judged as in SEALED (Table 06.3). -/
  imgOk (s : State) (slot ok : Bool) : Option Err :=
    checkImage (imgAt (if slot then 0x2080000 else 0x2000000) s) ok none .sealed (loadKeys s)

/-- R208: LANE.LOAD_STATUS once a LOAD has ended with `e`; `k`: the offset of the code word at which a decode check failed,
or 0. -/
def loadNote (e : Err) (k : Nat) (s : State) : State :=
  { s with lane.loadStatus := BitVec.ofNat 32 (e.1 * 2 ^ 24 + e.2 * 2 ^ 20 + k) }

/-- R403: AADC.TEST_RESULT of channel `u` after a self-test that ended with `e`. -/
def selftestNote (e : Err) (u : Nat) (r : PerfRes) (s : State) : State :=
  { s with
    aadc.testCode := vset s.aadc.testCode u e.1
    aadc.testSub := vset s.aadc.testSub u e.2
    aadc.testLevel := vset s.aadc.testLevel u (BitVec.ofInt 8 (r.vals.getD 0 0))
    aadc.testThdn := vset s.aadc.testThdn u (BitVec.ofInt 8 (r.vals.getD 1 0)) }

/-- R382: MIC.CAL_RESULT after a MIC_ARRAY run that ended with `e`. -/
def arrayNote (e : Err) (r : PerfRes) (s : State) : State :=
  { s with mic.calCode := e.1, mic.calSub := e.2, mic.calCh := r.ch, mic.calValue := r.value }

/-- What a perform phase records when it ends (R204, R208, R382, R403), and the common mode that AADC_OFFSET measures. The
result of a run that passes is stored at commit (R250). -/
def perfRecord (o : StwOp) (r : PerfRes) (s : State) : State :=
  match o, perfErr o r s with
  | .loadAt _ src n .., some e =>
    noteSource src (loadNote e (if r.timeout then 0 else ((imageErr src n s).bind (·.2)).getD 0) s)
  | .loadAt _ src .., none => noteSource src s
  | .seal, _ => slotEcc s
  | .calrun 3 _ u, _ => if r.timeout then s else { s with aadc.cmOk := setBit s.aadc.cmOk u (r.sub != 5) }
  | .calrun 4 _ u, some e => selftestNote e u r s
  | .calrun 5 _ _, some e => arrayNote e r s
  | _, _ => s

/-! ### Commit (R174, R239) -/

/-- A number in `[lo, hi]` as a two's complement field of `w` bits. -/
def clampField (w : Nat) (lo hi x : Int) : Nat := ((max lo (min hi x)) % 2 ^ w).toNat

/-- The channels of MIC.CAL_SET, ascending. -/
def calSet (s : State) : List Nat := (List.range 20).filter fun m => (fld 0x18 0x030 s).testBit m

/-- R383: gains that bring every channel's level to the reference's, and delays that align with the latest arrival. -/
def arrayCommit (vals : List Int) (s : State) : State :=
  let level (k : Nat) : Int := vals.getD (2 * k) 0
  let arrival (k : Nat) : Int := vals.getD (2 * k + 1) 0
  let ms := calSet s
  let latest := (List.range ms.length).foldl (fun a k => max a (arrival k)) (arrival 0)
  ms.zipIdx.foldl (fun t p =>
    commitFld 0x18 (0x200 + p.1) (clampField 16 0 4000 (latest - arrival p.2))
      (commitFld 0x18 (0x300 + p.1) (clampField 16 (-300) 300 (level 0 - level p.2)) t)) s

/-- R250: the results of a CALRUN are stored. -/
def calCommit (k u : Nat) (r : PerfRes) (s : State) : State :=
  match k with
  | 1 =>
    setFld (0x22 + u) 0x031 (clampField 16 (-2048) 2047 (r.vals.getD 1 0))
      (setFld (0x22 + u) 0x030 (clampField 8 (-64) 63 (r.vals.getD 0 0)) s)
  | 2 => pipeAvgClear u s
  | 3 => commitFld 0x20 (0x010 + u) (clampField 16 (-8192) 8191 (r.vals.getD 0 0)) s
  | 4 => selftestNote (0, 0) u r s
  | 5 => arrayNote (0, 0) r (arrayCommit r.vals s)
  | _ => s

/-- R204, R243: the code words stand at the destination, which becomes a verified region. -/
def commitLoad (dst words entry dataMin : Nat) (code : List Word) (s : State) : State :=
  let s := setWords dst code (unverify dst (dst + 4 * words) s)
  loadNote (0, 0) 0
    { s with lane.regions := { base := dst, words := words, entry := entry, dataMin := dataMin } :: s.lane.regions }

/-- Table 05.9: the block has a reset wrapper. -/
def wrapped (blk : Nat) : Bool :=
  [0x06, 0x08, 0x10, 0x11, 0x12, 0x13, 0x14, 0x15, 0x18, 0x20, 0x21, 0x22, 0x23, 0x28, 0x29, 0x2B, 0x32, 0x38, 0x39].contains blk

/-- R111, R112, Table 05.9: BRESET of one block or unit. A reset is complete before the next word of its block runs. -/
def bresetBlock (blk u : Nat) (s : State) : State :=
  let s := { s with rst.resets := s.rst.resets.filter fun r => !(r.1 == blk && r.2.1 == u) }
  match blk with
  | 0x03 => quietStop .soft s
  | 0x06 => twcBreset s
  | 0x08 => laneBreset u s
  | 0x09 => if u = 22 then glBreset s else memBreset u s
  | 0x10 => spBreset 0 s
  | 0x11 => spBreset 1 s
  | 0x12 => spBreset 2 s
  | 0x13 => spBreset 3 s
  | 0x14 => usbBreset s
  | 0x15 => ringBreset s
  | 0x18 => micBreset s
  | 0x20 => aadcBreset s
  | 0x21 => pipeBreset s
  | 0x22 => sarBreset 0 s
  | 0x23 => sarBreset 1 s
  | 0x28 => dacBreset s
  | 0x29 => toneBreset s
  | 0x2A => hpBreset s
  | 0x2B => jackBreset s
  | 0x30 => spkBreset s
  | 0x31 => { resetFields 0x31 s with boost := {} }
  | 0x32 => glintBreset s
  | 0x38 => haloBreset s
  | 0x39 => gpioBreset s
  | _ => s

/-- R124: one fuse word is written, to take effect at the next fuse map load. -/
def fuseWrite (i : Nat) (v : Word) (s : State) : State :=
  if i ≤ 0x02E then { s with
    lcy.pinFuse := smSet 0 i (v.setWidth 7 &&& 0x77) s.lcy.pinFuse, lcy.pinWritten := true }
  else { s with
    lcy.keyWords := smSet 0 i v s.lcy.keyWords, lcy.keyMask := setBit s.lcy.keyMask (i - 0x040) true }

/-- R112: once the block that holds BRESET words commits, their wrapped resets may still last, and an aperture write to such a
block's registers that waits for the system port is answered with an error (R145). -/
def openReset (blk u : Nat) (s : State) : State :=
  if !wrapped blk then s else
  let s := { s with rst.resets := s.rst.resets ++ [(blk, u, false)] }
  match s.twh.aptWrite with
  | some (a, _) =>
    if isReg a.toNat && regBlock a.toNat == blk && blk != 0x08 then
      resetErr blk { s with twh.aptWrite := none, twh.aptErr := true }
    else s
  | none => s

/-- The commit of a block's words ends: their wrapped resets may still last (R112), and a fault injected later falls in another
core cycle (R262). -/
def openResets (ops : List (Nat × StwOp)) (s : State) : State :=
  ops.foldl (fun t p => match p.2 with | .breset b u => openReset b u t | _ => t) { s with lane.injecting := false }

/-- The bytes of a 64-bit number, most significant first. -/
def beBytes64 (x : BitVec 64) : List Byte := beBytes ((x >>> 32).setWidth 32) ++ beBytes (x.setWidth 32)

/-- R188, R243, R244: CSTART is committed with the region as verified now. -/
def commitStart (n code dbase dlen : Nat) (arg : Word) (s : State) : State :=
  match regionAt code s with
  | some r => addFlow (.cstart n r.entry code r.words dbase dlen arg) s
  | none => s

/-- The effect of a word at commit. `code`: the words that a LOAD's perform phase read; `r`: what a perform phase
measured. -/
def applyOp (src : Source) (o : StwOp) (code : List Word) (r : PerfRes) (s : State) : State :=
  match o with
  | .nop => s
  | .load dst a => commitLoad dst (hdrWord a 2 s) (hdrWord a 3 s) (hdrWord a 4 s) code s
  | .loadAt dst _ words entry dataMin => commitLoad dst words entry dataMin code s
  | .cstart n rec => commitStart n (hdrWord rec 0 s) (hdrWord rec 1 s) (hdrWord rec 2 s) (srcWord (rec + 12) s) s
  | .cstartAt n c dbase dlen arg => commitStart n c dbase dlen arg s
  | .cstop n release => if !release && (pendCtx n s).st == .stopped then s else addFlow (.cstop n release) s
  | .route role k i n => if routeNoop role k i n s then s else addFlow (.route role k i n) s
  | .bankpwr u m st => (maskQuarters u m).foldl (fun t q => setQuarter u q st t) s
  | .cfg b f v => commitCfg b f v (cfgData b f v s) s
  | .cfgAt b f v data => commitCfg b f v data s
  | .claim b u =>
    if s.cmd.claims.contains (src, b, u) then s else { s with cmd.claims := s.cmd.claims ++ [(src, b, u)] }
  | .release b u => { s with cmd.claims := s.cmd.claims.filter (· != (src, b, u)) }
  | .breset b u => bresetBlock b u s
  | .seal => quietStop .seal s
  | .writeToken t => { s with lcy.tokenHash := some (sha256 (beBytes64 t)) }
  | .fuseWrite i v => fuseWrite i v s
  | .voidReq _ => quietStop .toVoid s
  | .calrun k _ u => calCommit k u r s

/-- R274: the word is read from a source in memory at validation, if it comes to it: its first address. -/
def sourceAt (o : StwOp) (s : State) : Option Nat :=
  match o with
  | .load _ a => if a % 4 = 0 && sourceOk a 32 s then some a else none
  | .cstart _ rec => if rec % 4 = 0 && sourceOk rec 16 s then some rec else none
  | .cfg b f v => if (cfgData b f v s).isEmpty || (earlyErr .host o s).isSome then none else some v
  | _ => none

/-- R274: what validating a word finds at a bank that is not ON. -/
def noteWord (o : StwOp) (s : State) : State := match sourceAt o s with | some a => noteSource a s | none => s

/-- The words that a LOAD's perform phase reads in `s`. -/
def codeOf (o : StwOp) (s : State) : List Word :=
  match o with
  | .load _ src => srcWords (src + 32) (hdrWord src 2 s) s
  | .loadAt _ src n .. => srcWords (src + 32) n s
  | _ => []

end Sys2Proof.Machine
end

