-- ==== Sys2Proof/Machine/Block.lean ====
section
/-! DEFINITION. Command blocks (R168 to R176): the steward takes a block in, validates, performs, commits and answers it;
and the commands that are one steward-only word, from a mailbox or from the steward's own program (R238). -/

namespace Sys2Proof.Machine

/-! ### Responses (R175, R238) -/

/-- R175, Table 08.9: the answer of a block: `idx` and `e` of the first failing word, `(0, 0)` for DONE. -/
def answerOf (tag : BitVec 8) (idx : Nat) (e : Err) : MbxState :=
  { valid := true, tag := tag, index := if e.1 = 0 then 0 else idx, sub := e.2, code := e.1 }

/-- R175, R238: the response goes to the source of the block. -/
def respond (src : Source) (tag : BitVec 8) (idx : Nat) (e : Err) (s : State) : State :=
  let m := answerOf tag idx e
  match src with
  | .host => raise 0x408 { s with win.mbx := { m with dbLost := s.win.mbx.dbLost } }
  | .usb => raise 0x409 { s with cmd.usbMbx := m }
  | .ring => raise 0x40A (ringRespond (mbxWord m) { s with cmd.ringMbx := m })
  | .steward => { s with stw.regs := s.stw.regs.setV 31 (BitVec.ofNat 32 (e.2 * 256 + e.1)) }

/-- The response of a job, if it is sent at all (R333, R504). -/
def respondJob (j : Job) (idx : Nat) (e : Err) (s : State) : State := if j.mute then s else respond j.src j.tag idx e s

/-! ### Validation (R172) -/

/-- R172: the words of a block from index `k`, applied one after the other to a state that stands for the block's effects
so far: the first failure with its index, or the operations with their indices and that state. -/
def validateFrom : Nat → Source → List Word → Nat → State → Except (Nat × Err) (List (Nat × StwOp) × State)
  | 0, _, _, _, s => .ok ([], s)
  | _ + 1, _, [], _, s => .ok ([], s)
  | fuel + 1, src, w :: ws, k, s =>
    match blockWord w ws with
    | .error e => .error (k, e)
    | .ok (o, n) =>
      match wordErr src o (decide (ws.length + 1 ≤ n)) s with
      | some e => .error (k, e)
      | none =>
        match validateFrom fuel src (ws.drop (n - 1)) (k + n) (applyOp src o [] {} s) with
        | .error e => .error e
        | .ok (ops, t) => .ok ((k, capture o s) :: ops, t)

/-- R168: the header is well formed: MARK, the zero field, LEN from 1 to 15. -/
def headerOk (h : Word) : Bool := bits h 31 24 == 0xB1 && bits h 23 16 == 0 && decide (1 ≤ bits h 7 0) && decide (bits h 7 0 ≤ 15)

/-- TAG of a header. -/
def tagOf (h : Word) : BitVec 8 := (h >>> 8).setWidth 8

/-- R172, R173: a validated block: without a perform phase its effects stand at once; else it enters that phase. -/
def enterBlock (src : Source) (tag : BitVec 8) (r : Except (Nat × Err) (List (Nat × StwOp) × State)) (s : State) : State :=
  match r with
  | .error (k, e) => respond src tag k e s
  | .ok (ops, t) =>
    if ops.any fun p => needsPerform p.2 then
      { s with
        cmd.jobs := s.cmd.jobs ++ [{ src := src, tag := tag, ops := ops }]
        mic.arrayLost := s.mic.arrayLost && calRunning 5 none s }
    else respond src tag 0 (0, 0) (openResets ops t)

/-- The operation is a LOAD. -/
def isLoad (o : StwOp) : Bool := match o with | .load .. => true | .loadAt .. => true | _ => false

/-- R208. DEDUCED (assumption log 45): a LOAD that a check of Table 08.4 rejects is the last LOAD too; `load` says which index
holds one. -/
def noteRejected (load : Nat → Bool) (r : Except (Nat × Err) (List (Nat × StwOp) × State)) (s : State) : State :=
  match r with
  | .error (k, e) => if load k then loadNote e 0 s else s
  | .ok _ => s

/-- Index `k` of a block's words holds a LOAD with its literal. -/
def loadsAt (ws : List Word) (k : Nat) : Bool :=
  match blockWord (ws.getD k 0) (ws.drop (k + 1)) with | .ok (o, _) => isLoad o | .error _ => false

/-- The operations of a block's words by index, up to the first word that has none. -/
def blockOps : Nat → List Word → Nat → List (Nat × StwOp)
  | 0, _, _ => []
  | _ + 1, [], _ => []
  | fuel + 1, w :: ws, k =>
    match blockWord w ws with | .ok (o, n) => (k, o) :: blockOps fuel (ws.drop (n - 1)) (k + n) | .error _ => []

/-- The index of the last word that validation comes to. -/
def reached (r : Except (Nat × Err) (List (Nat × StwOp) × State)) : Nat := match r with | .error (k, _) => k | .ok _ => 15

/-- R274: the sources that validation reads, up to index `k`. -/
def noteBody (k : Nat) (ops : List (Nat × StwOp)) (s : State) : State :=
  ops.foldl (fun t p => if p.1 ≤ k then noteWord p.2 t else t) s

/-- R168, R172: the steward validates the block of words, the header first, and commits or rejects it. -/
def takeBlock (src : Source) (ws : List Word) (s : State) : State :=
  let s := settleResets s
  let h := ws.headD 0
  let body := (ws.drop 1).take (bits h 7 0)
  if !headerOk h then respond src (tagOf h) 0 (eBadarg 0xF) s
  else
    let s := noteBody (reached (validateFrom 16 src body 0 s)) (blockOps 16 body 0) s
    let r := validateFrom 16 src body 0 s
    enterBlock src (tagOf h) r (noteRejected (loadsAt body) r s)

/-! ### Service (R170, R171) -/

/-- R171: the steward has no block in hand: the copies of a committed LOAD hold it; a perform phase does not. -/
def handFree (s : State) : Bool := s.cmd.jobs.all (·.copies.isEmpty)

/-- The steward serves mailboxes: the image runs, the steward is not halted by a fault or by the probe, no quiet stop
runs, the mode is RUN, the life-cycle state permits blocks, and no block is in hand. -/
def serves (s : State) : Bool :=
  hostServed s && s.sup.modeCur == .run && !s.sup.waking && (!s.dbg.halted || s.dbg.step) && handFree s

/-- R128: a halted steward has used its STEP. -/
def useStep (s : State) : State := { s with dbg.step := false }

/-- The block that waits in a mailbox. -/
def mailbox (m : MbxSource) (s : State) : Option (List Word) :=
  match m with | .host => s.cmd.hostBlk | .usb => s.cmd.usbBlk | .ring => s.cmd.ringBlk

/-- The source that owns a mailbox. -/
def sourceOf : MbxSource → Source
  | .host => .host | .usb => .usb | .ring => .ring

/-- R171: the rotation host, USB, ring, from the mailbox after `m`. -/
def rotation : MbxSource → List MbxSource
  | .host => [.usb, .ring, .host] | .usb => [.ring, .host, .usb] | .ring => [.host, .usb, .ring]

/-- R139, R171: the block leaves its mailbox; the copy of the host's has ended. -/
def emptyMailbox (m : MbxSource) (s : State) : State :=
  match m with
  | .host => { s with cmd.hostBlk := none, cmd.last := .host, twh.copying := false }
  | .usb => { s with cmd.usbBlk := none, cmd.last := .usb }
  | .ring => { s with cmd.ringBlk := none, cmd.last := .ring }

/-- R171: the mailbox whose turn it is, with its block. -/
def nextBlock (s : State) : Option (MbxSource × List Word) :=
  (rotation s.cmd.last).findSome? fun m => (mailbox m s).map fun ws => (m, ws)

/-- R171: the steward takes the next mailbox block in. -/
def execStewardTakeBlock (s : State) : Out :=
  .next (
    if !serves s then s else
    match nextBlock s with
    | none => s
    | some (m, ws) => takeBlock (sourceOf m) ws (useStep (emptyMailbox m s)))

/-! ### The end of a perform phase (R173, R174) -/

/-- The measured results of the word with index `k`. -/
def resOf (k : Nat) (res : List PerfRes) : PerfRes := (res.find? (·.idx == k)).getD { idx := k }

/-- R173: the perform phases in index order: what they record, and the first that fails. -/
def perform (res : List PerfRes) : List (Nat × StwOp) → State → Option (Nat × Err) × State
  | [], s => (none, s)
  | (k, o) :: ops, s =>
    let t := perfRecord o (resOf k res) s
    match perfErr o (resOf k res) s with
    | some e => (some (k, e), t)
    | none => perform res ops t

/-- R174: the state conditions again, word by word, and the effects; `s0` is the state that the perform phases saw. -/
def commitOps (src : Source) (res : List PerfRes) (s0 : State) : List (Nat × StwOp) → State → Except (Nat × Err) State
  | [], s => .ok s
  | (k, o) :: ops, s =>
    match stateErr src o s with
    | some e => .error (k, e)
    | none => commitOps src res s0 ops (applyOp src o (codeOf o s0) (resOf k res) s)

/-- R204: the copies that a committed block's LOADs still make. -/
def copiesOf (ops : List (Nat × StwOp)) : List (Nat × Nat × Nat) :=
  ops.filterMap fun p => match p.2 with | .loadAt dst src n .. => some (dst, src + 32, 4 * n) | _ => none

/-- R173, R174, R339: a block's perform phase has ended; the block is no longer among the jobs. -/
def finishJob (j : Job) (res : List PerfRes) (s : State) : State :=
  if j.dead then s else
  let s := settleResets s
  match perform res j.ops s with
  | (some (k, e), t) => respondJob j k e t
  | (none, t) =>
    match commitOps j.src res t j.ops t with
    | .error (k, e) => respondJob j k e (noteRejected (fun i => j.ops.any fun p => p.1 == i && isLoad p.2) (.error (k, e)) t)
    | .ok u =>
      let u := openResets j.ops u
      if (copiesOf j.ops).isEmpty then respondJob j 0 (0, 0) u
      else { u with cmd.jobs := u.cmd.jobs ++ [{ j with ops := [], copies := copiesOf j.ops }] }

/-- The first job of a source that performs (`false`) or copies (`true`). -/
def jobOf (src : Source) (copying : Bool) (s : State) : Option Job :=
  s.cmd.jobs.find? fun j => j.src == src && j.copies.isEmpty == !copying

/-- Takes the first job equal to `j` off the list. -/
def dropJob (j : Job) (s : State) : State := { s with cmd.jobs := s.cmd.jobs.erase j }

/-- R173, R174: the perform phase of the block of `src` ends with the measured results `res`; a steward halted by a fault
serves no block (R202). -/
def execPerformDone (src : Source) (res : List PerfRes) (s : State) : Out :=
  .next (
    if s.stw.faulted then s else
    match jobOf src false s with | none => s | some j => sarsNext (finishJob j res (dropJob j s)))

/-- R173: the perform phase of the block of `src` has lasted longer than 10,000 ms, in the word with index `idx`. -/
def execPerformTimeout (src : Source) (idx : Fin 15) (s : State) : Out :=
  .next (
    if s.stw.faulted then s else
    match jobOf src false s with
    | none => s
    | some j =>
      match j.ops.find? fun p => p.1 == idx.val && needsPerform p.2 with
      | none => s
      | some p => sarsNext (respondJob j idx (eTimeout 1) (perfRecord p.2 { idx := idx, timeout := true } (dropJob j s))))

/-- R204: the commit copies of the block of `src` are complete and its response is written. -/
def execLoadCopyDone (src : Source) (s : State) : Out :=
  .next (match jobOf src true s with | none => s | some j => respondJob j 0 (0, 0) (dropJob j s))

/-! ### One word alone -/

/-- The source can have a one-word block taken in now: its mailbox is empty and its last block answered. -/
def sourceReady (src : Source) (s : State) : Bool :=
  match src with
  | .host => !s.win.mbx.busy && s.cmd.hostBlk.isNone
  | .usb => usbConfigured s && !s.cmd.usbMbx.busy && s.cmd.usbBlk.isNone
  | .ring => s.ring.state == .trained && !s.cmd.ringMbx.busy && s.cmd.ringBlk.isNone
  | .steward => false

/-- R107, R123: a Vastalek test image runs in FAB. -/
def testRuns (s : State) : Bool := live s && s.rst.stage == .fabWait && s.lcy.shadow == .fab && s.stw.test

/-- R238, R202: the steward's program can issue its next instruction: it runs, waits for no word of its own, and no
mailbox block is pending. -/
def stwReady (s : State) : Bool :=
  (running s || testRuns s) && s.sup.modeCur == .run && !s.sup.waking && !s.stw.faulted
    && (!s.dbg.halted || s.dbg.step) && s.cmd.jobs.all (·.src != .steward) && handFree s && (nextBlock s).isNone

/-- R238: the program counter passes an instruction that `lits` literal words follow. -/
def RegSet.past (r : RegSet) (lits : Nat) : RegSet :=
  let t := r.fallThrough
  if t.pc == r.pc + 1 then { t with pc := t.pc + lits } else t

/-- The mailbox of a source. -/
def mailboxOf : Source → MbxSource
  | .host => .host | .usb => .usb | .ring => .ring | .steward => .host

/-- R171: no mailbox before that of `src` in the rotation has a block pending: the steward takes the block of `src` next. -/
def turnOf (src : Source) (s : State) : Bool :=
  ((rotation s.cmd.last).takeWhile (· != mailboxOf src)).all fun m => (mailbox m s).isNone

/-- R171, R238: a block of one word is taken from the mailbox of `src`, which is marked as busy. -/
def markBusy (src : Source) (s : State) : State :=
  match src with
  | .host => { s with win.mbx := { busy := true }, cmd.last := .host }
  | .usb => { s with cmd.usbMbx := { busy := true }, cmd.last := .usb }
  | .ring => { s with cmd.ringMbx := { busy := true }, cmd.last := .ring }
  | .steward => s

/-- A word handled as a block of one word, TAG 0 (R172 to R175, R238), from a state in which it has been taken in. -/
def runWord (src : Source) (o : StwOp) (s : State) : State :=
  let s := noteWord o (settleResets s)
  let r : Except (Nat × Err) (List (Nat × StwOp) × State) :=
    match wordErr src o true s with
    | some e => .error (0, e)
    | none => .ok ([(0, capture o s)], applyOp src o [] {} s)
  enterBlock src 0 r (noteRejected (fun _ => isLoad o) r s)

/-- R122, R130: in VOID every block from the host window or USB fails with LOCKED. -/
def voidAnswers (src : Source) (s : State) : Bool :=
  live s && windowVoid s && (src == .host || src == .usb) && sourceReady src s

/-- The steward takes a block of `src` now. -/
def takesFrom (src : Source) (s : State) : Bool := serves s && sourceReady src s && turnOf src s

/-- One steward-only word, from a mailbox or from the steward's program, where `lits` literal words follow it; unchanged
where the source cannot have it served now. -/
def oneWord (src : Source) (o : StwOp) (lits : Nat) (s : State) : State :=
  if src == .steward then
    if stwReady s then runWord .steward o { useStep s with stw.regs := s.stw.regs.past lits } else s
  else if takesFrom src s then runWord src o (markBusy src (useStep s))
  else if voidAnswers src s then respond src 0 0 (eLocked 0) s
  else s

/-- R241: CFG of an 8-bit value. -/
def execCfg (src : Source) (blk : BitVec 6) (fid : BitVec 12) (v : Byte) (s : State) : Out :=
  .next (oneWord src (.cfg blk.toNat fid.toNat v.toNat) 0 s)

/-- R240, R241: CFGL of a literal, or in the steward's program of a value register. -/
def execCfgl (src : Source) (blk : BitVec 6) (fid : BitVec 12) (v : Word) (reg : Option (Fin 32)) (s : State) : Out :=
  .next (
    match reg with
    | none => oneWord src (.cfg blk.toNat fid.toNat v.toNat) 1 s
    | some r =>
      if src == .steward then oneWord src (.cfg blk.toNat fid.toNat (s.stw.regs.vr r).toNat) 0 s
      else if takesFrom src s then respond src 0 0 (eBadop 2) (settleResets (markBusy src (useStep s)))
      else if voidAnswers src s then respond src 0 0 (eLocked 0) s
      else s)

/-- R177, R242: CLAIM. -/
def execClaim (src : Source) (blk : BitVec 6) (u : BitVec 16) (s : State) : Out :=
  .next (oneWord src (.claim blk.toNat u.toNat) 0 s)

/-- R177, R242: RELEASE. -/
def execRelease (src : Source) (blk : BitVec 6) (u : BitVec 16) (s : State) : Out :=
  .next (oneWord src (.release blk.toNat u.toNat) 0 s)

/-- R204, R243: LOAD to four times `dst`. -/
def execLoad (src : Source) (dst : BitVec 20) (a : Word) (s : State) : Out :=
  .next (oneWord src (.load (4 * dst.toNat) a.toNat) 1 s)

/-- R244: CSTART with the start record at `rec`. -/
def execCstart (src : Source) (ctx : Fin 1024) (rec : Word) (s : State) : Out :=
  .next (oneWord src (.cstart ctx rec.toNat) 1 s)

/-- R245: CSTOP. -/
def execCstop (src : Source) (ctx : Fin 1024) (s : State) : Out := .next (oneWord src (.cstop ctx false) 0 s)

/-- R245: CSTOP with release. -/
def execCstopRelease (src : Source) (ctx : Fin 1024) (s : State) : Out := .next (oneWord src (.cstop ctx true) 0 s)

/-- R246: ROUTE WRITER. -/
def execRouteWriter (src : Source) (kind : BitVec 4) (idx : BitVec 10) (n : Fin 1024) (s : State) : Out :=
  .next (oneWord src (.route .writer kind.toNat idx.toNat n) 0 s)

/-- R246: ROUTE READER. -/
def execRouteReader (src : Source) (kind : BitVec 4) (idx : BitVec 10) (n : Fin 1024) (s : State) : Out :=
  .next (oneWord src (.route .reader kind.toNat idx.toNat n) 0 s)

/-- R246: ROUTE UNREAD. -/
def execRouteUnread (src : Source) (kind : BitVec 4) (idx : BitVec 10) (n : Fin 1024) (s : State) : Out :=
  .next (oneWord src (.route .unread kind.toNat idx.toNat n) 0 s)

/-- R246: ROUTE FREE. -/
def execRouteFree (src : Source) (n : Fin 1024) (s : State) : Out := .next (oneWord src (.route .free 0 0 n) 0 s)

/-- R247: BANKPWR. -/
def execBankpwr (src : Source) (u : BitVec 5) (mask : BitVec 4) (st : BankPower) (s : State) : Out :=
  .next (oneWord src (.bankpwr u.toNat mask.toNat st) 0 s)

/-- R111, R248: BRESET of a block other than RST. -/
def execBreset (src : Source) (blk : BitVec 6) (u : BitVec 16) (s : State) : Out :=
  .next (if blk = 0x03 then s else oneWord src (.breset blk.toNat u.toNat) 0 s)

/-- R111, R248, R505: BRESET naming RST. -/
def execBresetRst (src : Source) (u : BitVec 16) (s : State) : Out := .next (oneWord src (.breset 0x03 u.toNat) 0 s)

/-- R123, R249: LCYREQ SEAL. -/
def execLcyreqSeal (src : Source) (s : State) : Out := .next (oneWord src .seal 0 s)

/-- R123: LCYREQ WRITE_TOKEN. -/
def execLcyreqWriteToken (src : Source) (token : BitVec 64) (s : State) : Out :=
  .next (oneWord src (.writeToken token) 2 s)

/-- R124: LCYREQ FUSE_WRITE. -/
def execLcyreqFuseWrite (src : Source) (idx : BitVec 12) (v : Word) (s : State) : Out :=
  .next (oneWord src (.fuseWrite idx.toNat v) 1 s)

/-- R123: LCYREQ VOID. -/
def execLcyreqVoid (src : Source) (confirm : Word) (s : State) : Out := .next (oneWord src (.voidReq confirm) 1 s)

/-- R415: CALRUN SAR_CAL. -/
def execCalrunSarCal (src : Source) (force : Bool) (u : BitVec 16) (s : State) : Out :=
  .next (oneWord src (.calrun 1 force u.toNat) 0 s)

/-- R407: CALRUN PIPE_AVG. -/
def execCalrunPipeAvg (src : Source) (force : Bool) (u : BitVec 16) (s : State) : Out :=
  .next (oneWord src (.calrun 2 force u.toNat) 0 s)

/-- R401: CALRUN AADC_OFFSET. -/
def execCalrunAadcOffset (src : Source) (force : Bool) (u : BitVec 16) (s : State) : Out :=
  .next (oneWord src (.calrun 3 force u.toNat) 0 s)

/-- R402: CALRUN AADC_SELFTEST. -/
def execCalrunAadcSelftest (src : Source) (force : Bool) (u : BitVec 16) (s : State) : Out :=
  .next (oneWord src (.calrun 4 force u.toNat) 0 s)

/-- R381: CALRUN MIC_ARRAY. -/
def execCalrunMicArray (src : Source) (force : Bool) (u : BitVec 16) (s : State) : Out :=
  .next (oneWord src (.calrun 5 force u.toNat) 0 s)

/-! ### Actions of configuration fields: CFG, or CFGL where the value needs it -/

/-- A CFG of a named field. -/
def fieldWord (src : Source) (blk fid v : Nat) (s : State) : State :=
  oneWord src (.cfg blk fid v) (if v < 256 then 0 else 1) s

/-- R150: CFG of TWC.START. -/
def execTwcStart (src : Source) (s : State) : Out := .next (fieldWord src 0x06 0x009 1 s)

/-- R152: CFG of TWC.CLEAR. -/
def execTwcClear (src : Source) (s : State) : Out := .next (fieldWord src 0x06 0x00A 1 s)

/-- R116: CFG of RST.WDOG_KICK; the watchdog's count is in WATCHDOG_EXPIRY's hands. -/
def execWdogKick (src : Source) (v : Byte) (s : State) : Out := .next (fieldWord src 0x03 0x002 v.toNat s)

/-- R264: CFG of LANE.FAULT_INJECT. -/
def execLaneFaultInject (src : Source) (v : Byte) (s : State) : Out := .next (fieldWord src 0x08 0x002 v.toNat s)

/-- R336: CFG of USB.WAKE_REQ. -/
def execUsbWakeReq (src : Source) (s : State) : Out := .next (fieldWord src 0x14 0x014 1 s)

/-- R354: CFGL of RING.SEND. -/
def execRingSend (src : Source) (a : Word) (s : State) : Out := .next (fieldWord src 0x15 0x005 a.toNat s)

/-- R362: CFG of RING.CALL. -/
def execRingCall (src : Source) (s : State) : Out := .next (fieldWord src 0x15 0x004 1 s)

/-- R392: CFG of VAULT.REARM. -/
def execVaultRearm (src : Source) (s : State) : Out := .next (fieldWord src 0x1A 0x001 1 s)

/-- R393: CFGL of VAULT.EXPORT. -/
def execVaultExport (src : Source) (a : Word) (s : State) : Out := .next (fieldWord src 0x1A 0x003 a.toNat s)

/-- R411: CFG of SARn.TRIGGER. -/
def execSarTrigger (src : Source) (n : Fin 2) (s : State) : Out := .next (fieldWord src (0x22 + n.val) 0x006 1 s)

/-- R414: CFG of SARn.URGENT. -/
def execSarUrgent (src : Source) (n : Fin 2) (i : Byte) (s : State) : Out :=
  .next (fieldWord src (0x22 + n.val) 0x007 i.toNat s)

/-- R430: CFGL of DAC.RDAC_PUSH_x. -/
def execRdacPush (src : Source) (x : Fin 2) (c : Word) (s : State) : Out :=
  .next (fieldWord src 0x28 (0x014 + x.val) c.toNat s)

/-- R454: CFG of SPK.RESTART_x. -/
def execSpkRestart (src : Source) (x : Fin 2) (s : State) : Out := .next (fieldWord src 0x30 (0x018 + x.val) 1 s)

/-- R477: CFGL of GLINT.COEF_LOAD_c. -/
def execGlintCoefLoad (src : Source) (c : Fin 2) (a : Word) (s : State) : Out :=
  .next (fieldWord src 0x32 (0x014 + c.val) a.toNat s)

/-- R486: CFG of HALO.START. -/
def execHaloStart (src : Source) (s : State) : Out := .next (fieldWord src 0x38 0x007 1 s)

/-- R485: CFGL of HALO.LOAD_p. -/
def execHaloLoad (src : Source) (p : Fin 4) (a : Word) (s : State) : Out :=
  .next (fieldWord src 0x38 (0x010 + p.val) a.toNat s)

/-- R490: CFGL of GPIO.SET. -/
def execGpioSet (src : Source) (mask : Word) (s : State) : Out := .next (fieldWord src 0x39 0x041 mask.toNat s)

/-- R490: CFGL of GPIO.CLR. -/
def execGpioClr (src : Source) (mask : Word) (s : State) : Out := .next (fieldWord src 0x39 0x042 mask.toNat s)

end Sys2Proof.Machine
end

