-- ==== Sys2Proof/Machine/Issue.lean ====
section
/-! DEFINITION. The issue of one Slaso instruction by a context or by the steward's program (R196 to R202, R213, R225,
R228, R237): turns, budgets, faults, and the memory accesses of an instruction. -/

namespace Sys2Proof.Machine

/-- Why an instruction does not complete. -/
inductive Stop where
  /-- a code of Table 09.4, or 8, ILLEGAL (R237) -/
  | fault (code : Nat)
  /-- R225: an uncorrectable ECC error: a lane fault -/
  | lost
  deriving DecidableEq, Repr

/-- What an issued instruction does. -/
inductive Act where
  /-- it completes: the registers before the program counter moves on, how it moves, and the rest of the state -/
  | done (r : RegSet) (g : Go) (s : State)
  /-- WAITF: the context is done for the frame -/
  | waitf
  /-- YIELD: the turn ends -/
  | yield
  /-- it has no effect; the state holds what its failing access raises -/
  | stop (why : Stop) (s : State)

/-! ### Whether an instruction can issue -/

/-- Context `n` is the one its lane runs now. -/
def ctxReady (n : Nat) (s : State) : Bool :=
  ticking s && laneServed (laneOf n) s && (ctxAt n s).st == .running
    && (vget s.lane.runList (laneOf n) []).head? == some n

/-- The registers of an agent. -/
def agentRegs (who : Agent) (s : State) : RegSet :=
  match who with | .ctx n => (ctxAt n s).regs | .steward => s.stw.regs

/-- The agent can issue an instruction now. -/
def agentReady (who : Agent) (s : State) : Bool :=
  match who with | .ctx n => ctxReady n s | .steward => stwReady s

/-! ### The steward (R202, R237) -/

/-- R202: the steward halts with a code. -/
def stwHalt (code : Nat) (s : State) : State :=
  raise 0x413 { s with
    stw.faulted := true, lane.stwFault := BitVec.ofNat 32 (code * 2 ^ 28 + s.stw.regs.pc % 2 ^ 17) }

/-- The words of the steward bank, its code region (R236). -/
def stwWords : Nat := 0x20000

/-- R237: one instruction of the steward's program. -/
def issueStw (f : RegSet → State → Act) (s : State) : State :=
  if !stwReady s then s else
  let s := useStep s
  if stwWords ≤ s.stw.regs.pc then stwHalt 1 s else
  match f s.stw.regs s with
  | .done r g t => { t with stw.regs := r.advance g }
  | .waitf => stwHalt 8 s
  | .yield => stwHalt 8 s
  | .stop (.fault c) t => stwHalt c t
  | .stop .lost t => stwHalt 4 t

/-! ### Contexts (R195 to R200, R213) -/

/-- R196: context `n` moves to the tail of its lane's list and its turn ends. -/
def endTurn (n : Nat) (s : State) : State :=
  let l := laneOf n
  { s with
    lane.runList := vset s.lane.runList l (((vget s.lane.runList l []).filter (· != n)) ++ [n])
    lane.turn := setBit s.lane.turn l false }

/-- R195: WAITF takes the snapshot and the context leaves the list. -/
def takeSnapshot (n : Nat) (s : State) : State :=
  let c := ctxAt n s
  let r := c.regs.advance .fall
  leaveList n (setCtx n { c with regs := r, form := some r } s)

/-- The effect of an instruction of context `n` whose cycles have been charged. -/
def ctxFinish (n : Nat) (x : Act) (s : State) : State :=
  match x with
  | .done r g t => setCtx n { ctxAt n t with regs := r.advance g } t
  | .waitf => takeSnapshot n s
  | .yield =>
    let c := ctxAt n s
    endTurn n (setCtx n { c with regs := c.regs.advance .fall } s)
  | .stop (.fault c) t => ctxFault n c t
  | .stop .lost t => t

/-- One instruction of context `n` within its turn: FETCH before anything else, an overrun where it does not fit. -/
def ctxInstr (n cyc : Nat) (f : RegSet → State → Act) (s : State) : State :=
  let c := ctxAt n s
  let a := c.code + 4 * c.regs.pc
  if c.words ≤ c.regs.pc then ctxFault n 1 s
  else if !addrOn a s then ctxFault n 4 (notOn a s)
  else if !fits n cyc s then overrun n s
  else
    let t := charge n cyc s
    ctxFinish n (f c.regs t) t

/-- R197: the switch cycles of a turn, before its first instruction. -/
def openTurn (n : Nat) (s : State) : State :=
  { charge n 12 s with lane.turn := setBit s.lane.turn (laneOf n) true }

/-- R196, R197, R213: the instruction that context `n` comes to. -/
def issueCtx (n cyc : Nat) (f : RegSet → State → Act) (s : State) : State :=
  if !ctxReady n s then s
  else if s.lane.turn.getLsbD (laneOf n) then ctxInstr n cyc f s
  else if !fits n 12 s then overrun n s
  else ctxInstr n cyc f (openTurn n s)

/-- An instruction of both profiles; `ok`: its operands meet the operand rules. An invalid word is never in a context's
code (R210), and halts the steward (R237). -/
def issue (who : Agent) (ok : Bool) (cyc : Nat) (f : RegSet → State → Act) (s : State) : State :=
  match who with
  | .ctx n => if ok then issueCtx n cyc f s else s
  | .steward => issueStw (fun r s => if ok then f r s else .stop (.fault 8) s) s

/-- An instruction of the lane profile (R237: ILLEGAL on the steward). -/
def issueLane (who : Agent) (cyc : Nat) (f : Nat → RegSet → State → Act) (s : State) : State :=
  match who with
  | .ctx n => issueCtx n cyc (f n) s
  | .steward => issueStw (fun _ s => .stop (.fault 8) s) s

/-- An instruction of one cycle that only changes registers. -/
def compute (who : Agent) (f : RegSet → RegSet) (s : State) : State :=
  issue who true 1 (fun r s => .done (f r) .fall s) s

/-! ### Memory accesses (R192, R224, R225, R237) -/

/-- The first word from `a` in a quarter that is not ON. -/
def offWord (a len : Nat) (s : State) : Option Nat :=
  ((List.range (len / 4 + 1)).map fun k => min (a + 4 * k) (a + len - 1)).find? fun x => !addrOn x s

/-- R25: a byte of `[a, a + len)` belongs to no bank and no register. -/
def unmapped (a len : Nat) : Bool :=
  [a, a + len - 1].any fun x => (memUnit x).isNone && !isReg x

/-- R225: the checks of one access of `len` bytes at `a`: the fault and what it raises, if any. -/
def accessFault (who : Agent) (a len align : Nat) (load : Bool) (s : State) : Option (Nat × State) :=
  if a % align ≠ 0 then some (3, s) else
  match who with
  | .steward => none
  | .ctx n =>
    let c := ctxAt n s
    let inside := c.dbase ≤ a && a + len ≤ c.dbase + c.dlen
    let code := load && c.code ≤ a && a + len ≤ c.code + 4 * c.words
    let locked := !load && s.lane.regions.any fun r => r.base < a + len && a < r.base + 4 * r.words
    if !(inside || code) || locked then some (2, raiseIf (unmapped a len) 0x432 s)
    else match offWord a len s with
      | some x => some (4, notOn x s)
      | none => none

/-- How a reply of the system port ends a steward access: a fault, or on (R237). -/
def replyFault : Reply → Option Nat
  | .unmapped => some 2
  | .err => some 4
  | _ => none

/-- One word that an access reads; `e`: what its ECC check finds. -/
def readOne (who : Agent) (a : Nat) (e : Ecc) (s : State) : Except Stop Word × State :=
  match who with
  | .ctx _ =>
    let (ok, t) := ramEcc a e s
    (if ok then .ok (wordAt a t) else .error .lost, t)
  | .steward =>
    let (r, t) := sysRead .steward a e s
    match replyFault r with | some c => (.error (.fault c), t) | none => (.ok r.word, t)

/-- `k` words upward from `a`; the list of ECC outcomes is read as clean beyond its end. -/
def readMany (who : Agent) : Nat → Nat → List Ecc → State → Except Stop (List Word) × State
  | 0, _, _, s => (.ok [], s)
  | k + 1, a, es, s =>
    match readOne who a (es.headD .clean) s with
    | (.error w, t) => (.error w, t)
    | (.ok w, t) =>
      match readMany who k (a + 4) es.tail t with
      | (.error w, u) => (.error w, u)
      | (.ok ws, u) => (.ok (w :: ws), u)

/-- A load of `k` words at `a` after its checks. -/
def loadBlock (who : Agent) (a k align : Nat) (es : List Ecc) (s : State) : Except Stop (List Word) × State :=
  match accessFault who a (4 * k) align true s with
  | some (c, t) => (.error (.fault c), t)
  | none => readMany who k a es s

/-- The address, word and byte enables of a store, with the marks of a lost collision and of the ECC check. -/
structure StoreOne where
  /-- a multiple of 4 -/
  a : Nat
  /-- the word -/
  w : Word
  /-- the bytes written -/
  be : BitVec 4 := 0xF
  /-- R237, R269: the owner port writes the word in the same cycle -/
  hit : Bool := false
  /-- R270, R276: what the read of a sub-word write finds -/
  e : Ecc := .clean
  deriving DecidableEq, Repr

/-- One word stored: the fault or loss, and the state after it. -/
def writeOne (who : Agent) (x : StoreOne) (s : State) : Option Stop × State :=
  match who with
  | .ctx _ =>
    let (ok, t) := if x.be = 0xF then (true, s) else ramEcc x.a x.e s
    if ok then (none, setWord x.a (mergeBytes (wordAt x.a t) x.w x.be) t) else (some .lost, t)
  | .steward =>
    let (r, t) := sysWrite .steward x.a x.w x.be x.hit x.e s
    ((replyFault r).map .fault, t)

/-- R225: all stores of an instruction: the first that fails leaves the memory as it was, or else all are made. -/
def writeMany (who : Agent) (xs : List StoreOne) (s : State) : Option Stop × State :=
  match xs.find? fun x => (writeOne who x s).1.isSome with
  | some x => writeOne who x s
  | none => (none, xs.foldl (fun t x => (writeOne who x t).2) s)

/-- The stores of words upward from `a`. -/
def storesOf : Nat → List Word → List Bool → List StoreOne
  | _, [], _ => []
  | a, w :: ws, hits => { a := a, w := w, hit := hits.headD false } :: storesOf (a + 4) ws hits.tail

/-- A store of words at `a` after its checks. -/
def storeBlock (who : Agent) (a align : Nat) (ws : List Word) (hits : List Bool) (s : State) : Option Stop × State :=
  match accessFault who a (4 * ws.length) align false s with
  | some (c, t) => (some (.fault c), t)
  | none => writeMany who (storesOf a ws hits) s

/-- R224: the address of the word, and the bytes of it, that a halfword at `a` occupies. -/
def halfBe (a : Nat) : BitVec 4 := if a % 4 = 2 then 0xC else 0x3

/-- The halfword at `a` of the word that holds it. -/
def halfOf (a : Nat) (w : Word) : BitVec 16 := if a % 4 = 2 then (w >>> 16).setWidth 16 else w.setWidth 16

/-- A halfword load after its checks. -/
def loadHalf (who : Agent) (a : Nat) (es : List Ecc) (s : State) : Except Stop (BitVec 16) × State :=
  match accessFault who a 2 2 true s with
  | some (c, t) => (.error (.fault c), t)
  | none =>
    match readOne who (a / 4 * 4) (es.headD .clean) s with
    | (.error w, t) => (.error w, t)
    | (.ok w, t) => (.ok (halfOf a w), t)

/-- A halfword store after its checks. -/
def storeHalf (who : Agent) (a : Nat) (h : BitVec 16) (e : Ecc) (hit : Bool) (s : State) : Option Stop × State :=
  match accessFault who a 2 2 false s with
  | some (c, t) => (some (.fault c), t)
  | none => writeMany who [{ a := a / 4 * 4, w := h ++ h, be := halfBe a, hit := hit, e := e }] s

/-! ### ECC errors that no other command meets (R276, R277, Table 13.5) -/

/-- One sample period of a queue reads zero in one channel: which word of the port engine's queues an address holds is open. -/
def queueZero (k : Nat) (out : Bool) (s : State) : State :=
  let (w, s) := takeFree s
  let zero (l : List (SMap Word)) : List (SMap Word) :=
    l.modify (w.toNat % 2 ^ 16 % (max 1 l.length)) (setSamp (w.toNat / 2 ^ 16 % portCh k out s) 0)
  let q := portQ k s
  setPortQ k (if out then { q with outQ := zero q.outQ } else { q with inQ := zero q.inQ }) s

/-- Table 13.14: the word at `a` belongs to a queue of port `k`, toward the port or from it. -/
def queueOf (a : Nat) : Option (Nat × Bool) :=
  if a < 0x1801000 then some ((a - 0x1800000) / 0x400, decide (0x200 ≤ a % 0x400))
  else if a < 0x1801300 then some (4, decide (0x1801180 ≤ a))
  else if 0x1804000 ≤ a ∧ a < 0x1805800 then some (5, decide (0x1804C00 ≤ a))
  else none

/-- Table 13.5: the owner of units 18 to 20 finds an uncorrectable error: it receives zero for the word (assumption log 48). -/
def ownerUncorr (a : Nat) (s : State) : State :=
  let s := ramUncorr a s
  if !portOccupied a 4 s then s else
  match queueOf a with | some (k, out) => queueZero k out s | none => s

/-- R276, R237: the steward's fetch of the word at its program counter. -/
def fetchEcc (a : Nat) (e : Ecc) (s : State) : State :=
  if !(agentReady .steward s && a == 0x800000 + 4 * s.stw.regs.pc) then s else
  let (ok, t) := ramEcc a e s
  if ok then t else stwHalt 4 t

/-- R277: the RAM scrubber reads the word at `a` of a quarter that is ON and its check finds an error or none; so does whoever else reads it and has
no command that carries the outcome: the owner port of units 18 to 20, the steward's fetch, an engine's read of an image
(assumption log 48). -/
def execRamScrubAccess (a : Word) (found : RamFind) (s : State) : Out :=
  let x := a.toNat / 4 * 4
  let e := found.what
  .next (
    match memUnit x with
    | none => s
    | some u =>
      if !(live s && u < 21 && addrOn x s) then s else
      match found.finder with
      | .scrubber => if fld 0x09 0x002 s == 1 then (ramEcc x e s).2 else s
      | .owner => if !(18 ≤ u && u ≤ 20) then s else if e == .uncorr then ownerUncorr x s else (ramEcc x e s).2
      | .stewardFetch => fetchEcc x e s
      | .engine => (ramEcc x e s).2)

end Sys2Proof.Machine
end

