-- ==== Sys2Proof/Machine/Alu.lean ====
section
/-! DEFINITION. 10_slaso_core: the Slaso instructions that touch registers only: QALU, FALU, MOVE, immediates, MAC, ACC,
BFLY, CMP, PRED and PTR. -/

namespace Sys2Proof.Machine

/-! ### Shapes -/

/-- `vd` from a function of two registers. -/
def alu2 (who : Agent) (vd vs vt : Fin 32) (f : Word → Word → Word) (s : State) : State :=
  compute who (fun r => r.setV vd (f (r.vr vs) (r.vr vt))) s

/-- `vd` from a function of two registers that may clamp. -/
def alu2S (who : Agent) (vd vs vt : Fin 32) (f : Word → Word → Word × Bool) (s : State) : State :=
  compute who (fun r => r.setVS vd (f (r.vr vs) (r.vr vt))) s

/-- `vd` from a function of one register. -/
def alu1 (who : Agent) (vd vs : Fin 32) (f : Word → Word) (s : State) : State :=
  compute who (fun r => r.setV vd (f (r.vr vs))) s

/-- `vd` from a function of one register that may clamp. -/
def alu1S (who : Agent) (vd vs : Fin 32) (f : Word → Word × Bool) (s : State) : State :=
  compute who (fun r => r.setVS vd (f (r.vr vs))) s

/-! ### QALU (R214, Table 10.3) -/

/-- NOP. -/
def execNop (who : Agent) (s : State) : Out := .next (compute who id s)

/-- ADD. -/
def execAdd (who : Agent) (vd vs vt : Fin 32) (s : State) : Out :=
  .next (alu2S who vd vs vt (fun x y => satQ (x.toInt + y.toInt)) s)

/-- SUB. -/
def execSub (who : Agent) (vd vs vt : Fin 32) (s : State) : Out :=
  .next (alu2S who vd vs vt (fun x y => satQ (x.toInt - y.toInt)) s)

/-- ADDW. -/
def execAddw (who : Agent) (vd vs vt : Fin 32) (s : State) : Out := .next (alu2 who vd vs vt (· + ·) s)

/-- SUBW. -/
def execSubw (who : Agent) (vd vs vt : Fin 32) (s : State) : Out := .next (alu2 who vd vs vt (· - ·) s)

/-- NEG. -/
def execNeg (who : Agent) (vd vs : Fin 32) (s : State) : Out := .next (alu1S who vd vs (fun x => satQ (-x.toInt)) s)

/-- ABS. -/
def execAbs (who : Agent) (vd vs : Fin 32) (s : State) : Out :=
  .next (alu1S who vd vs (fun x => satQ x.toInt.natAbs) s)

/-- MIN, signed. -/
def execMin (who : Agent) (vd vs vt : Fin 32) (s : State) : Out :=
  .next (alu2 who vd vs vt (fun x y => if x.slt y then x else y) s)

/-- MAX, signed. -/
def execMax (who : Agent) (vd vs vt : Fin 32) (s : State) : Out :=
  .next (alu2 who vd vs vt (fun x y => if x.slt y then y else x) s)

/-- MUL. -/
def execMul (who : Agent) (vd vs vt : Fin 32) (s : State) : Out :=
  .next (alu2S who vd vs vt (fun x y => rndQ (x.toInt * y.toInt)) s)

/-- MULI. -/
def execMuli (who : Agent) (vd vs vt : Fin 32) (s : State) : Out := .next (alu2 who vd vs vt (· * ·) s)

/-- AND. -/
def execAnd (who : Agent) (vd vs vt : Fin 32) (s : State) : Out := .next (alu2 who vd vs vt (· &&& ·) s)

/-- OR. -/
def execOr (who : Agent) (vd vs vt : Fin 32) (s : State) : Out := .next (alu2 who vd vs vt (· ||| ·) s)

/-- XOR. -/
def execXor (who : Agent) (vd vs vt : Fin 32) (s : State) : Out := .next (alu2 who vd vs vt (· ^^^ ·) s)

/-- NOT. -/
def execNot (who : Agent) (vd vs : Fin 32) (s : State) : Out := .next (alu1 who vd vs (fun x => ~~~x) s)

/-- SHL by SUB. -/
def execShl (who : Agent) (vd vs : Fin 32) (sub : Fin 32) (s : State) : Out :=
  .next (alu1 who vd vs (fun x => x <<< sub.val) s)

/-- SHR by SUB. -/
def execShr (who : Agent) (vd vs : Fin 32) (sub : Fin 32) (s : State) : Out :=
  .next (alu1 who vd vs (fun x => x >>> sub.val) s)

/-- SAR by SUB. -/
def execSar (who : Agent) (vd vs : Fin 32) (sub : Fin 32) (s : State) : Out :=
  .next (alu1 who vd vs (fun x => x.sshiftRight sub.val) s)

/-- SHLS by SUB. -/
def execShls (who : Agent) (vd vs : Fin 32) (sub : Fin 32) (s : State) : Out :=
  .next (alu1S who vd vs (fun x => satQ (x.toInt * 2 ^ sub.val)) s)

/-- ASH. -/
def execAsh (who : Agent) (vd vs vt : Fin 32) (s : State) : Out := .next (alu2S who vd vs vt ashR s)

/-- CLIP. -/
def execClip (who : Agent) (vd vs vt : Fin 32) (s : State) : Out := .next (alu2 who vd vs vt clipR s)

/-- QNT to SUB bits, 1 to 31. -/
def execQnt (who : Agent) (vd vs : Fin 32) (sub : Fin 32) (s : State) : Out :=
  .next (issue who (sub != 0) 1 (fun r s => .done (r.setVS vd (qntR (r.vr vs) sub)) .fall s) s)

/-- NORM. -/
def execNorm (who : Agent) (vd vs : Fin 32) (s : State) : Out :=
  .next (alu1 who vd vs (fun x => BitVec.ofNat 32 (normR x 31)) s)

/-- SATCLR. -/
def execSatclr (who : Agent) (s : State) : Out := .next (compute who (fun r => { r with sat := false }) s)

/-- SATGET. -/
def execSatget (who : Agent) (vd : Fin 32) (s : State) : Out :=
  .next (compute who (fun r => r.setV vd (BitVec.ofNat 32 (b2n r.sat))) s)

/-! ### FALU (R190, R215, Table 10.4) -/

/-- FADD. -/
def execFadd (who : Agent) (vd vs vt : Fin 32) (s : State) : Out := .next (alu2 who vd vs vt fpAdd s)

/-- FSUB. -/
def execFsub (who : Agent) (vd vs vt : Fin 32) (s : State) : Out := .next (alu2 who vd vs vt fpSub s)

/-- FMUL. -/
def execFmul (who : Agent) (vd vs vt : Fin 32) (s : State) : Out := .next (alu2 who vd vs vt fpMul s)

/-- FMAC: one rounding. -/
def execFmac (who : Agent) (vd vs vt : Fin 32) (s : State) : Out :=
  .next (compute who (fun r => r.setV vd (fpMac (r.vr vd) (r.vr vs) (r.vr vt))) s)

/-- FDIV: 8 cycles. -/
def execFdiv (who : Agent) (vd vs vt : Fin 32) (s : State) : Out :=
  .next (issue who true 8 (fun r s => .done (r.setV vd (fpDiv (r.vr vs) (r.vr vt))) .fall s) s)

/-- FSQRT: 8 cycles. -/
def execFsqrt (who : Agent) (vd vs : Fin 32) (s : State) : Out :=
  .next (issue who true 8 (fun r s => .done (r.setV vd (fpSqrt (r.vr vs))) .fall s) s)

/-- FMIN. -/
def execFmin (who : Agent) (vd vs vt : Fin 32) (s : State) : Out := .next (alu2 who vd vs vt (fpPick false) s)

/-- FMAX. -/
def execFmax (who : Agent) (vd vs vt : Fin 32) (s : State) : Out := .next (alu2 who vd vs vt (fpPick true) s)

/-- FABS. -/
def execFabs (who : Agent) (vd vs : Fin 32) (s : State) : Out :=
  .next (alu1 who vd vs (fun x => x &&& 0x7FFFFFFF) s)

/-- FNEG. -/
def execFneg (who : Agent) (vd vs : Fin 32) (s : State) : Out :=
  .next (alu1 who vd vs (fun x => x ^^^ 0x80000000) s)

/-- FTOQ by SUB. -/
def execFtoq (who : Agent) (vd vs : Fin 32) (sub : Fin 32) (s : State) : Out :=
  .next (alu1S who vd vs (fun x => fpToInt (fpOf x) (31 - (sub.val : Int))) s)

/-- QTOF by SUB. -/
def execQtof (who : Agent) (vd vs : Fin 32) (sub : Fin 32) (s : State) : Out :=
  .next (alu1 who vd vs (fun x => fpOfInt x.toInt ((sub.val : Int) - 31) false) s)

/-- FTOI. -/
def execFtoi (who : Agent) (vd vs : Fin 32) (s : State) : Out :=
  .next (alu1S who vd vs (fun x => fpToInt (fpOf x) 0) s)

/-- ITOF. -/
def execItof (who : Agent) (vd vs : Fin 32) (s : State) : Out :=
  .next (alu1 who vd vs (fun x => fpOfInt x.toInt 0 false) s)

/-! ### Moves and immediates (R216, Table 10.5) -/

/-- MOV. -/
def execMov (who : Agent) (vd vs : Fin 32) (s : State) : Out := .next (alu1 who vd vs id s)

/-- SEL. -/
def execSel (who : Agent) (vd vs vt : Fin 32) (q : Fin 4) (s : State) : Out :=
  .next (compute who (fun r => r.setV vd (if r.qr q then r.vr vs else r.vr vt)) s)

/-- PGET. -/
def execPget (who : Agent) (vd : Fin 32) (p : Fin 8) (s : State) : Out :=
  .next (compute who (fun r => r.setV vd (r.pr p).addr) s)

/-- PGETS. -/
def execPgets (who : Agent) (vd : Fin 32) (p : Fin 8) (s : State) : Out :=
  .next (compute who (fun r => r.setV vd (r.pr p).start) s)

/-- LCGET. -/
def execLcget (who : Agent) (vd : Fin 32) (k : Fin 2) (s : State) : Out :=
  .next (compute who (fun r => r.setV vd (r.lcLeft k)) s)

/-- PACK. -/
def execPack (who : Agent) (vd vs vt : Fin 32) (s : State) : Out :=
  .next (alu2 who vd vs vt (fun x y => (x &&& 0xFFFF0000) ||| (y >>> 16)) s)

/-- ADDI. -/
def execAddi (who : Agent) (vd vs : Fin 32) (imm : BitVec 16) (s : State) : Out :=
  .next (alu1 who vd vs (fun x => x + imm.signExtend 32) s)

/-- MOVI. -/
def execMovi (who : Agent) (vd : Fin 32) (imm : BitVec 16) (s : State) : Out :=
  .next (compute who (fun r => r.setV vd (imm.signExtend 32)) s)

/-- MOVHI. -/
def execMovhi (who : Agent) (vd : Fin 32) (imm : BitVec 16) (s : State) : Out :=
  .next (compute who (fun r => r.setV vd (imm ++ (r.vr vd).setWidth 16)) s)

/-! ### MAC and ACC (R217, R219) -/

/-- An integer with its sign inverted where asked. -/
def negIf (b : Bool) (x : Int) : Int := if b then -x else x

/-- R217: MAC. -/
def execMac (who : Agent) (ad : Fin 4) (vs vt vu vw : Fin 32) (clr neg1 neg2 single : Bool) (s : State) : Out :=
  .next (issue who (!single || (vu == 0 && vw == 0 && !neg2)) 1 (fun r s =>
    let p1 := negIf neg1 ((r.vr vs).toInt * (r.vr vt).toInt)
    let p2 := if single then 0 else negIf neg2 ((r.vr vu).toInt * (r.vr vw).toInt)
    .done (r.setA ad (satA ((if clr then 0 else r.ar ad) + p1 + p2))) .fall s) s)

/-- RND. -/
def execRnd (who : Agent) (vd : Fin 32) (k : Fin 4) (s : State) : Out :=
  .next (compute who (fun r => r.setVS vd (rndQ (r.ar k))) s)

/-- RNDSH by 0 to 15. -/
def execRndsh (who : Agent) (vd : Fin 32) (k : Fin 4) (sh : Fin 16) (s : State) : Out :=
  .next (compute who (fun r => r.setVS vd (rndQ (r.ar k * 2 ^ sh.val))) s)

/-- ACLR. -/
def execAclr (who : Agent) (k : Fin 4) (s : State) : Out :=
  .next (compute who (fun r => { r with a := r.a.set k 0 }) s)

/-- ALD. -/
def execAld (who : Agent) (k : Fin 4) (vs : Fin 32) (s : State) : Out :=
  .next (compute who (fun r => { r with a := r.a.set k (BitVec.ofInt 72 ((r.vr vs).toInt * 2 ^ 31)) }) s)

/-- AADD. -/
def execAadd (who : Agent) (k : Fin 4) (vs : Fin 32) (s : State) : Out :=
  .next (compute who (fun r => r.setA k (satA (r.ar k + (r.vr vs).toInt * 2 ^ 31))) s)

/-- AMOV. -/
def execAmov (who : Agent) (k j : Fin 4) (s : State) : Out :=
  .next (compute who (fun r => { r with a := r.a.set k r.a[j] }) s)

/-! ### The butterfly (R221) -/

/-- The even register of a pair. -/
def even (k : Fin 32) : Bool := k.val % 2 == 0

/-- rndQ of `(x ± t) · 2^−sh` with `x` at scale 2^−31 and `t` at scale 2^−62. -/
def bflyPart (x : Word) (t : Int) (sh : Bool) : Word × Bool := satQ (rndBy (31 + b2n sh) (x.toInt * 2 ^ 31 + t))

/-- R221: BFLY, `sh` its SUB[0]. -/
def execBfly (who : Agent) (vd vs vt : Fin 32) (sh : Bool) (s : State) : Out :=
  .next (issue who (even vd && even vs && even vt && vd != vs) 2 (fun r s =>
    let xr := r.vr vd
    let xi := r.vr (oddOf vd)
    let yr := (r.vr vs).toInt
    let yi := (r.vr (oddOf vs)).toInt
    let wr := (r.vr vt).toInt
    let wi := (r.vr (oddOf vt)).toInt
    let tr := wr * yr - wi * yi
    let ti := wr * yi + wi * yr
    .done ((((r.setVS vd (bflyPart xr tr sh)).setVS (oddOf vd) (bflyPart xi ti sh)).setVS vs
      (bflyPart xr (-tr) sh)).setVS (oddOf vs) (bflyPart xi (-ti) sh)) .fall s) s)

/-! ### CMP and PRED (R222, R223) -/

/-- Table 10.7, F = 1; no condition where the code is invalid. -/
def cmpFp (cc : Nat) (a b : Word) : Option Bool :=
  let x := fpOf a
  let y := fpOf b
  match cc with
  | 0 => some (fpEq x y) | 1 => some (!fpEq x y)
  | 2 => some (fpLt x y) | 3 => some (fpLt x y || fpEq x y) | 4 => some (fpLt y x) | 5 => some (fpLt y x || fpEq x y)
  | 8 => some (x == .nan || y == .nan)
  | _ => none

/-- R222: what COMB makes of the old predicate and the result. -/
def combOf (comb : BitVec 2) (old r : Bool) : Option Bool :=
  match comb with | 0 => some r | 1 => some (old && r) | 2 => some (old || r) | _ => none

/-- R222: the new value of qd; none where the word is invalid. -/
def cmpResult (r : RegSet) (qd : Fin 4) (vs vt : Fin 32) (cc : BitVec 4) (f z : Bool) (comb : BitVec 2) : Option Bool :=
  let b := if z then 0 else r.vr vt
  if z && vt != 0 then none else
  match (if f then cmpFp cc.toNat (r.vr vs) b else cmpInt cc.toNat (r.vr vs) b) with
  | none => none
  | some x => combOf comb (r.qr qd) x

/-- R222: CMP. -/
def execCmp (who : Agent) (qd : Fin 4) (vs vt : Fin 32) (cc : BitVec 4) (f z : Bool) (comb : BitVec 2) (s : State) :
    Out :=
  let x := cmpResult (agentRegs who s) qd vs vt cc f z comb
  .next (issue who x.isSome 1 (fun r s => .done (r.setQ qd (x.getD false)) .fall s) s)

/-- QSET. -/
def execQset (who : Agent) (qd : Fin 4) (imm : Bool) (s : State) : Out := .next (compute who (·.setQ qd imm) s)

/-- QAND. -/
def execQand (who : Agent) (qd qs qt : Fin 4) (s : State) : Out :=
  .next (compute who (fun r => r.setQ qd (r.qr qs && r.qr qt)) s)

/-- QOR. -/
def execQor (who : Agent) (qd qs qt : Fin 4) (s : State) : Out :=
  .next (compute who (fun r => r.setQ qd (r.qr qs || r.qr qt)) s)

/-- QXOR. -/
def execQxor (who : Agent) (qd qs qt : Fin 4) (s : State) : Out :=
  .next (compute who (fun r => r.setQ qd (r.qr qs != r.qr qt)) s)

/-- QANDN. -/
def execQandn (who : Agent) (qd qs qt : Fin 4) (s : State) : Out :=
  .next (compute who (fun r => r.setQ qd (r.qr qs && !r.qr qt)) s)

/-- QNOT. -/
def execQnot (who : Agent) (qd qs : Fin 4) (s : State) : Out := .next (compute who (fun r => r.setQ qd (!r.qr qs)) s)

/-- QTOV. -/
def execQtov (who : Agent) (v : Fin 32) (qs : Fin 4) (s : State) : Out :=
  .next (compute who (fun r => r.setV v (BitVec.ofNat 32 (b2n (r.qr qs)))) s)

/-- VTOQ. -/
def execVtoq (who : Agent) (qd : Fin 4) (v : Fin 32) (s : State) : Out :=
  .next (compute who (fun r => r.setQ qd (r.vr v != 0)) s)

/-! ### PTR (R226) -/

/-- PSETA. -/
def execPseta (who : Agent) (pk : Fin 8) (vs : Fin 32) (imm : BitVec 16) (s : State) : Out :=
  .next (compute who (fun r => r.setP pk { r.pr pk with addr := r.vr vs + imm.signExtend 32 }) s)

/-- PSETS. -/
def execPsets (who : Agent) (pk : Fin 8) (vs : Fin 32) (imm : BitVec 16) (s : State) : Out :=
  .next (compute who (fun r => r.setP pk { r.pr pk with start := (r.vr vs + imm.signExtend 32) &&& 0xFFFFFFFC }) s)

/-- PSETL: 0 or a multiple of 4. -/
def execPsetl (who : Agent) (pk : Fin 8) (imm : BitVec 16) (s : State) : Out :=
  .next (issue who (imm.toNat % 4 == 0) 1 (fun r s => .done (r.setP pk { r.pr pk with len := imm }) .fall s) s)

/-- PSTEP. -/
def execPstep (who : Agent) (pk : Fin 8) (imm : BitVec 16) (s : State) : Out :=
  .next (compute who (fun r => r.stepP pk imm.toInt) s)

end Sys2Proof.Machine
end

