-- ==== Sys2Proof/Machine/LaneMem.lean ====
section
/-! DEFINITION. 10_slaso_core and 11_slaso_stream: the Slaso instructions that reach memory and streams: MACP, BQ, LD,
ST, SRD, SWR, SGET, SPUT, BSEND. `es` are the outcomes of the ECC checks of the words read, in order, and `hits` the
stores of the steward that lose to an owner port. -/

namespace Sys2Proof.Machine

/-- The word with index `k` of a block read. -/
def nth (ws : List Word) (k : Nat) : Int := (ws.getD k 0).toInt

/-- R218: what MACP accumulates. -/
def macpSum (xs ys : List Word) (neg : Bool) : Int := negIf neg (nth xs 0 * nth ys 0 + nth xs 1 * nth ys 1)

/-- R218: MACP. -/
def execMacp (who : Agent) (ad : Fin 4) (pj pk : Fin 8) (clr neg : Bool) (es : List Ecc) (s : State) : Out :=
  .next (issue who (pj != pk) 1 (fun r s =>
    match loadBlock who (r.pr pj).addr.toNat 2 8 es s with
    | (.error w, t) => .stop w t
    | (.ok xs, t) =>
      match loadBlock who (r.pr pk).addr.toNat 2 8 (es.drop 2) t with
      | (.error w, u) => .stop w u
      | (.ok ys, u) =>
        .done (((r.setA ad (satA ((if clr then 0 else r.ar ad) + macpSum xs ys neg))).stepP pj 8).stepP pk 8) .fall u) s)

/-- R220: y of a biquad step from the coefficients, the input and the state. -/
def bqOut (cs st : List Word) (x : Word) : Word × Bool :=
  rndQ (2 * (nth cs 0 * x.toInt + nth cs 1 * nth st 0 + nth cs 2 * nth st 1 - nth cs 3 * nth st 2 - nth cs 4 * nth st 3))

/-- R220: a load of the state block, which must lie where BQ can store it. -/
def bqState (who : Agent) (a : Nat) (es : List Ecc) (s : State) : Except Stop (List Word) × State :=
  match accessFault who a 16 4 false s with
  | some (c, t) => (.error (.fault c), t)
  | none => readMany who 4 a es s

/-- R220: BQ. -/
def execBq (who : Agent) (vd vs : Fin 32) (pc ps : Fin 8) (es : List Ecc) (hits : List Bool) (s : State) : Out :=
  .next (issue who (pc != ps) 3 (fun r s =>
    let a := (r.pr ps).addr.toNat
    match loadBlock who (r.pr pc).addr.toNat 5 4 es s with
    | (.error w, t) => .stop w t
    | (.ok cs, t) =>
      match bqState who a (es.drop 5) t with
      | (.error w, u) => .stop w u
      | (.ok st, u) =>
        let x := r.vr vs
        let y := bqOut cs st x
        match storeBlock who a 4 [x, st.getD 0 0, y.1, st.getD 2 0] hits u with
        | (some w, v) => .stop w v
        | (none, v) => .done (((r.setVS vd y).stepP pc 20).stepP ps 16) .fall v) s)

/-- R224, Table 10.9: the bytes that an LD or ST of a size accesses. -/
def sizeBytes (size : BitVec 2) : Nat := match size with | 0 => 4 | 1 => 8 | _ => 2

/-- R224: a pair names an even register. -/
def sizeOk (size : BitVec 2) (vd : Fin 32) : Bool := size != 1 || even vd

/-- R224: the registers after an LD of a size through `a`, before the post-modify. -/
def loadTo (who : Agent) (vd : Fin 32) (size : BitVec 2) (a : Nat) (es : List Ecc) (r : RegSet) (s : State) :
    Except Stop RegSet × State :=
  if size = 0 then
    match loadBlock who a 1 4 es s with
    | (.error w, t) => (.error w, t)
    | (.ok ws, t) => (.ok (r.setV vd (ws.getD 0 0)), t)
  else if size = 1 then
    match loadBlock who a 2 8 es s with
    | (.error w, t) => (.error w, t)
    | (.ok ws, t) => (.ok ((r.setV vd (ws.getD 0 0)).setV (oddOf vd) (ws.getD 1 0)), t)
  else
    match loadHalf who a es s with
    | (.error w, t) => (.error w, t)
    | (.ok h, t) => (.ok (r.setV vd (if size = 2 then h ++ (0 : BitVec 16) else h.signExtend 32)), t)

/-- R224: LD. -/
def execLd (who : Agent) (vd : Fin 32) (pk : Fin 8) (size : BitVec 2) (inc : BitVec 16) (es : List Ecc) (s : State) :
    Out :=
  .next (issue who (sizeOk size vd) 1 (fun r s =>
    match loadTo who vd size (r.pr pk).addr.toNat es r s with
    | (.error w, t) => .stop w t
    | (.ok q, t) => .done (q.stepP pk inc.toInt) .fall t) s)

/-- R224: the half that a store of size 2 or 3 writes, and whether it clamped. -/
def halfStored (size : BitVec 2) (w : Word) : BitVec 16 × Bool := if size = 2 then halfQ w else (w.setWidth 16, false)

/-- R224: ST of a size through `a`: why it fails, and the state. -/
def storeFrom (who : Agent) (vd : Fin 32) (size : BitVec 2) (a : Nat) (es : List Ecc) (hits : List Bool) (r : RegSet)
    (s : State) : Option Stop × State :=
  if size = 0 then storeBlock who a 4 [r.vr vd] hits s
  else if size = 1 then storeBlock who a 8 [r.vr vd, r.vr (oddOf vd)] hits s
  else storeHalf who a (halfStored size (r.vr vd)).1 (es.headD .clean) (hits.headD false) s

/-- R224: a store of a Q1.15 half that clamps. -/
def storeSat (size : BitVec 2) (w : Word) : Bool := size == 2 && (halfQ w).2

/-- R224: ST. -/
def execSt (who : Agent) (vd : Fin 32) (pk : Fin 8) (size : BitVec 2) (inc : BitVec 16) (es : List Ecc)
    (hits : List Bool) (s : State) : Out :=
  .next (issue who (sizeOk size vd) 1 (fun r s =>
    match storeFrom who vd size (r.pr pk).addr.toNat es hits r s with
    | (some w, t) => .stop w t
    | (none, t) => .done (({ r with sat := r.sat || storeSat size (r.vr vd) } : RegSet).stepP pk inc.toInt) .fall t) s)

/-! ### Streams (R231 to R234) -/

/-- R231: the handle. -/
def handleOf (r : RegSet) (vh : Fin 32) (hoff : BitVec 10) : Nat := ((r.vr vh).setWidth 10 + hoff).toNat

/-- R231: context `n` is the writer of stream `h`. -/
def mayWrite (n h : Nat) (s : State) : Bool := (strm h s).writer == some (1, n)

/-- R231: context `n` is a reader of stream `h`. -/
def mayRead (n h : Nat) (s : State) : Bool := (strm h s).readers.contains (1, n)

/-- R233: the cycles of a block transfer. -/
def blockCycles (s : State) : Nat := 2 + frameLen s / 4

/-- The samples 0 to `k` − 1 of a frame. -/
def samples (f : SMap Word) (k : Nat) : List Word := (List.range k).map fun i => samp i f

/-- R233: SRD. -/
def execSrd (who : Agent) (pk : Fin 8) (vh : Fin 32) (hoff : BitVec 10) (s : State) : Out :=
  .next (issueLane who (blockCycles s) (fun n r s =>
    let h := handleOf r vh hoff
    if !mayRead n h s then .stop (.fault 6) s else
    match storeBlock who (r.pr pk).addr.toNat 4 (samples (strm h s).rbuf (frameLen s)) [] s with
    | (some w, t) => .stop w t
    | (none, t) => .done (r.stepP pk (4 * (frameLen s : Int))) .fall t) s)

/-- R233: SWR. -/
def execSwr (who : Agent) (pk : Fin 8) (vh : Fin 32) (hoff : BitVec 10) (es : List Ecc) (s : State) : Out :=
  .next (issueLane who (blockCycles s) (fun n r s =>
    let h := handleOf r vh hoff
    if !mayWrite n h s then .stop (.fault 6) s else
    match loadBlock who (r.pr pk).addr.toNat (frameLen s) 4 es s with
    | (.error w, t) => .stop w t
    | (.ok ws, t) => .done (r.stepP pk (4 * (frameLen s : Int))) .fall (setStrm h { strm h t with wbuf := frameOf ws } t)) s)

/-- The position vp[6:0]. -/
def posOf (r : RegSet) (vp : Fin 32) : Nat := (r.vr vp).toNat % 128

/-- R233: SGET. -/
def execSget (who : Agent) (vd vp vh : Fin 32) (hoff : BitVec 10) (s : State) : Out :=
  .next (issueLane who 1 (fun n r s =>
    let h := handleOf r vh hoff
    let i := posOf r vp
    if !mayRead n h s then .stop (.fault 6) s
    else .done (r.setV vd (if i < frameLen s then samp i (strm h s).rbuf else 0)) .fall s) s)

/-- R233: SPUT. -/
def execSput (who : Agent) (vd vp vh : Fin 32) (hoff : BitVec 10) (s : State) : Out :=
  .next (issueLane who 1 (fun n r s =>
    let h := handleOf r vh hoff
    let i := posOf r vp
    if !mayWrite n h s then .stop (.fault 6) s
    else .done r .fall (
      if i < frameLen s then setStrm h { strm h s with wbuf := setSamp i (r.vr vd) (strm h s).wbuf } s else s)) s)

/-- R234: BSEND. -/
def execBsend (who : Agent) (vh : Fin 32) (hoff : BitVec 10) (s : State) : Out :=
  .next (issueLane who 1 (fun n r s =>
    let h := handleOf r vh hoff
    if !mayWrite n h s then .stop (.fault 6) s
    else if busOf h s = 0 then .stop (.fault 7) s
    else .done r .fall (setStrm h { strm h s with sent := true } s)) s)

end Sys2Proof.Machine
end

