-- ==== Sys2Proof/Machine/Control.lean ====
section
/-! DEFINITION. 10_slaso_core and 11_slaso_stream: hardware loops, EVT, WAITF, YIELD and the branches; and the words that
halt the steward. -/

namespace Sys2Proof.Machine

/-! ### Hardware loops (R227, R228) -/

/-- LOOP of `n` iterations to `last`: fault LOOP at depth 2, whatever the count. -/
def loopTo (last : Nat) (n : BitVec 16) (r : RegSet) (s : State) : Act :=
  if r.depth = 2 then .stop (.fault 5) s
  else if n = 0 then .done r (.to (last + 1)) s
  else .done (r.pushLoop n last) .fall s

/-- R227: LOOP of COUNT iterations, or of vs[15:0] where a register is given; END is beyond the LOOP itself. -/
def execLoop (who : Agent) (reg : Option (Fin 32)) (count : BitVec 10) (last : BitVec 14) (s : State) : Out :=
  let ok := decide ((agentRegs who s).pc < last.toNat) && (reg.isSome || count != 0)
  .next (issue who ok 1 (fun r s =>
    loopTo last.toNat (match reg with | some v => (r.vr v).setWidth 16 | none => count.setWidth 16) r s) s)

/-- R228: LBRK. -/
def execLbrk (who : Agent) (s : State) : Out :=
  .next (issue who true 1 (fun r s =>
    if r.depth = 0 then .done r .fall s else .done r.popLoop (.to (r.inner.last + 1)) s) s)

/-! ### Events and frame control (R236, Table 11.4) -/

/-- EVT: nothing on the steward. -/
def execEvt (who : Agent) (s : State) : Out :=
  .next (issue who true 1 (fun r s =>
    .done r .fall (match who with
      | .ctx n => ctxCause n { ctxAt n s with evt := true } s
      | .steward => s)) s)

/-- WAITF. -/
def execWaitf (who : Agent) (s : State) : Out := .next (issueLane who 1 (fun _ _ _ => .waitf) s)

/-- YIELD. -/
def execYield (who : Agent) (s : State) : Out := .next (issueLane who 1 (fun _ _ _ => .yield) s)

/-! ### Branches (R236) -/

/-- BR. -/
def execBr (who : Agent) (target : BitVec 17) (s : State) : Out :=
  .next (issue who true 2 (fun r s => .done r (.to target.toNat) s) s)

/-- A branch taken where predicate `q` is `want`: 2 cycles taken, 1 not taken. -/
def branchIf (who : Agent) (want : Bool) (q : Fin 4) (target : BitVec 17) (s : State) : State :=
  let taken := (agentRegs who s).qr q == want
  issue who true (if taken then 2 else 1) (fun r s => .done r (if taken then .to target.toNat else .fall) s) s

/-- BRT. -/
def execBrt (who : Agent) (q : Fin 4) (target : BitVec 17) (s : State) : Out := .next (branchIf who true q target s)

/-- BRF. -/
def execBrf (who : Agent) (q : Fin 4) (target : BitVec 17) (s : State) : Out := .next (branchIf who false q target s)

/-- CALL. -/
def execCall (who : Agent) (target : BitVec 17) (s : State) : Out :=
  .next (issue who true 2 (fun r s => .done (r.setV 30 (BitVec.ofNat 32 (r.pc + 1))) (.to target.toNat) s) s)

/-- JMPR. -/
def execJmpr (who : Agent) (vs : Fin 32) (s : State) : Out :=
  .next (issue who true 2 (fun r s => .done r (.to ((r.vr vs).toNat % 2 ^ 17)) s) s)

/-- R237: the steward meets an invalid word in its program. -/
def execIllegalStewardWord (s : State) : Out := .next (issueStw (fun _ s => .stop (.fault 8) s) s)

end Sys2Proof.Machine
end

