-- ==== Sys2Proof/Machine/Debug.lean ====
section
/-! DEFINITION. The debug port (R125 to R129, R133): whole frames, the debug-local registers and the debug commands. -/

namespace Sys2Proof.Machine

/-! ### Frames (R126) -/

/-- OP of a command byte. -/
inductive DbgOp where
  | dread | dwrite | read | write
  deriving DecidableEq, Repr

/-- The code of an OP. -/
def DbgOp.code : DbgOp → Nat
  | .dread => 2 | .dwrite => 3 | .read => 6 | .write => 7

/-- R126: the check byte of a frame over its command, address and data. -/
def dbgCheck (op : DbgOp) (idx : Nat) (ws : List Word) : Byte :=
  crc8 (BitVec.ofNat 8 (op.code * 32 + idx) :: ws.flatMap beBytes)

/-- R126: no CM9440 answers before the fuse map has been loaded, nor in SHUTDOWN, with VCORE off (Table 03.3); the pull-up
holds the line. -/
def dbgAnswers (s : State) : Bool :=
  (s.rst.phase == .fused || s.rst.phase == .running) && s.sup.modeCur != .shutdown

/-- The response OK, with read data and its check. -/
def dbgOk (w : Word) (s : State) : State := { s with dbg.resp := 6, dbg.rdata := w, dbg.rcheck := crc8 (beBytes w) }

/-- The response WAIT. -/
def dbgWait (s : State) : State := { s with dbg.resp := 5 }

/-- The response FAULT with a status code. -/
def dbgFault (code : Nat) (s : State) : State :=
  { s with dbg.resp := 3, dbg.faultCode := BitVec.ofNat 8 code, dbg.faultSub := 0 }

/-- R129: a failed check, with its sub-reason. -/
def dbgFaultSub (code sub : Nat) (s : State) : State := { dbgFault code s with dbg.faultSub := BitVec.ofNat 4 sub }

/-- R127: a refused access draws FAULT with LOCKED and raises LCY_DENIED. -/
def dbgRefuse (s : State) : State := raise 0x4F4 (dbgFault 0xA s)

/-- R126: a frame whose check byte is `crc`; `act` where the part answers and the check matches. -/
def dbgFrame (op : DbgOp) (idx : Nat) (ws : List Word) (crc : Byte) (act : State → State) (s : State) : State :=
  if !dbgAnswers s then { s with dbg.resp := 0xF }
  else if crc != dbgCheck op idx ws then dbgFault 2 s
  else act s

/-- R125: sixty-four clocks of low reset the shifter and nothing else. -/
def execDebugShifterReset (s : State) : Out := .next { s with dbg.shifter := [] }

/-! ### The debug-local registers (R133) -/

/-- R128: the steward has halted: the blocks in their perform phase have committed or been rejected. -/
def stwHalted (s : State) : Bool := s.dbg.halted && (performing s).isEmpty

/-- DBG_STATUS. -/
def dbgStatus (s : State) : Word :=
  fieldsWord [(lifeCode s.lcy.shadow, 0), (b2n s.dbg.session, 4), (b2n (stwHalted s), 5), (b2n s.dbg.nonce.isSome, 6),
    (b2n s.lcy.tokenHash.isSome, 7), (s.dbg.faultCode.toNat, 8), (s.lcy.authFails, 16)]

/-- Word `k` of the nonce, the most significant first; zero when not fresh. -/
def nonceWord (k : Nat) (s : State) : Word :=
  match s.dbg.nonce with | some n => (n >>> (32 * (3 - k))).setWidth 32 | none => 0

/-- What DREAD returns: 0 of a write-only register (R13), nothing where Table 06.7 has none. -/
def dbgLocal (idx : Nat) (s : State) : Option Word :=
  match idx with
  | 0 => some Config.idWord
  | 1 => some (dbgStatus s)
  | 3 => some ((Config.deviceUid >>> 32).setWidth 32)
  | 4 => some (Config.deviceUid.setWidth 32)
  | _ =>
    if 5 ≤ idx ∧ idx ≤ 8 then some (nonceWord (idx - 5) s)
    else if 12 ≤ idx ∧ idx < 16 then none
    else some 0

/-- R126, R133: DREAD. DESIGN CHOICE: an index that Table 06.7 does not list draws FAULT with BADARG (assumption log 43). -/
def execDbgDread (idx : BitVec 5) (crc : Byte) (s : State) : Out :=
  .next (dbgFrame .dread idx.toNat [] crc (fun s =>
    match dbgLocal idx.toNat s with | some w => dbgOk w s | none => dbgFault 2 s) s)

/-- What DWRITE of an index other than DBG_CMD writes; a read-only register takes no write (R13). -/
def dbgStore (idx : Nat) (w : Word) (s : State) : Option State :=
  if idx = 9 then some { s with dbg.arg := w }
  else if idx = 10 then some { s with dbg.token := w ++ s.dbg.token.setWidth 32 }
  else if idx = 11 then some { s with dbg.token := (s.dbg.token >>> 32).setWidth 32 ++ w }
  else if 16 ≤ idx then some { s with dbg.sig := vset s.dbg.sig (idx - 16) w }
  else if 12 ≤ idx then none
  else some s

/-! ### System accesses (R126, R127) -/

/-- How a system access answers the frame. -/
def dbgReply (r : Reply) (s : State) : State :=
  match r with
  | .ok w => dbgOk w s
  | .unmapped => dbgOk 0 s
  | .denied => dbgFault 0xA s
  | .sealed => dbgFault 0xC s
  | .collided => dbgFault 0xD s
  | .err =>
    let (code, s) := takeCode s
    dbgFault code s

/-- R126: READ of the word at `a`; `e`: what its ECC check finds. -/
def execDbgRead (a : Word) (crc : Byte) (e : Ecc) (s : State) : Out :=
  .next (dbgFrame .read 0 [a] crc (fun s =>
    if s.lcy.quiet.isSome then dbgWait s
    else
      let (r, s) := sysRead .debug (a.toNat / 4 * 4) e s
      dbgReply r s) s)

/-- R279: a word write that finds no place in the Glacier queue. -/
def glFull (a : Nat) (s : State) : Bool :=
  memUnit a == some 21 && 16 ≤ s.mem.glQueue.length && (glQueued a s).isNone

/-- R126: WRITE of the word at `a`; `hit`: the owner port writes the same word (R269). -/
def execDbgWrite (a w : Word) (crc : Byte) (hit : Bool) (s : State) : Out :=
  .next (dbgFrame .write 0 [a, w] crc (fun s =>
    let x := a.toNat / 4 * 4
    if s.lcy.quiet.isSome || (portMay .debug true x s && glFull x s && !glProtected x s) then dbgWait s
    else
      let (r, s) := sysWrite .debug x w 0xF hit .clean s
      dbgReply (if r = .sealed then .denied else r) s) s)

/-! ### Commands (R128, R129) -/

/-- Table 06.5: READ, WRITE and run control. -/
def dbgMayRun (s : State) : Bool := portMay .debug true 0 s

/-- R127, R128: a command written to DBG_CMD: it waits while a signature is checked or a quiet stop runs, is refused
where `may` does not hold, and acts otherwise. -/
def dbgCommand (value : Word) (may : State → Bool) (crc : Byte) (act : State → State) (s : State) : State :=
  dbgFrame .dwrite 2 [value] crc (fun s =>
    if s.dbg.auth.isSome || s.lcy.quiet.isSome then dbgWait s
    else if !may s then dbgRefuse s
    else act s) s

/-- R128: HALT: the steward takes no further block and issues no further instruction; it has halted once the blocks in
their perform phase are done (`stwHalted`). -/
def dbgHalt (crc : Byte) (s : State) : State :=
  dbgCommand 0x01 dbgMayRun crc (fun s => dbgOk 0 { s with dbg.halted := true }) s

/-- R128. -/
def execDbgHalt (crc : Byte) (s : State) : Out := .next (dbgHalt crc s)

/-- R107: DESIGN CHOICE (assumption log 42): in FAB_WAIT, RESUME or STEP starts the Vastalek test image that the debug port has
written, at the first word of the steward bank. -/
def startTest (s : State) : State :=
  if live s && s.rst.stage == .fabWait && !s.stw.test then { s with stw := { test := true } } else s

/-- R128: RESUME. -/
def dbgResume (crc : Byte) (s : State) : State :=
  dbgCommand 0x02 dbgMayRun crc (fun s => dbgOk 0 { startTest s with dbg.halted := false, dbg.step := false }) s

/-- R128. -/
def execDbgResume (crc : Byte) (s : State) : Out := .next (dbgResume crc s)

/-- R128: STEP: the block that waits, or else one instruction, which may now be issued. -/
def stepOnce (s : State) : State :=
  if !s.dbg.halted then s else
  let s := { startTest s with dbg.step := true }
  if !serves s then s else
  match nextBlock s with
  | some (m, ws) => takeBlock (sourceOf m) ws (useStep (emptyMailbox m s))
  | none => s

/-- R128: STEP. -/
def dbgStep (crc : Byte) (s : State) : State :=
  dbgCommand 0x03 dbgMayRun crc (fun s => dbgOk 0 (stepOnce s)) s

/-- R128. -/
def execDbgStep (crc : Byte) (s : State) : Out := .next (dbgStep crc s)

/-- R128: RESET. -/
def dbgReset (crc : Byte) (s : State) : State :=
  dbgCommand 0x10 dbgMayRun crc (fun s => assertReset .debug s) s

/-- R128. -/
def execDbgReset (crc : Byte) (s : State) : Out := .next (dbgReset crc s)

/-- R128, R129: CHALLENGE generates a fresh nonce. -/
def challenge (crc : Byte) (s : State) : State :=
  dbgCommand 0x20 (fun s => s.lcy.shadow != .void) crc (fun s =>
    if s.dbg.lockout then dbgFault 4 s
    else dbgOk 0 { s with dbg.nonce := some (Config.freeNonce s.free), free := s.free + 1 }) s

/-- R128. -/
def execChallenge (crc : Byte) (s : State) : Out := .next (challenge crc s)

/-- R129: the signed message. -/
def authMessage (nonce : BitVec 128) (purpose : Word) : List Byte :=
  let w (k : Nat) : Word := (nonce >>> (32 * k)).setWidth 32
  beBytes64 Config.deviceUid ++ [w 3, w 2, w 1, w 0, purpose].flatMap beBytes

/-- DBG_SIG0 to DBG_SIG15 as one number, r then s. -/
def dbgSig (s : State) : BitVec 512 :=
  s.dbg.sig.toList.foldl (fun (v : BitVec 512) w => (v <<< 32) ||| w.setWidth 512) 0

/-- R129: the check of DBG_SIG starts and consumes the nonce. -/
def authStart (k : AuthKind) (nonce : BitVec 128) (purpose : Word) (s : State) : State :=
  { s with
    dbg.auth := some k, dbg.nonce := none
    dbg.authOk := ecdsaVerify Config.vastalekKey (sha256 (authMessage nonce purpose)) (dbgSig s) }

/-- R129: an INTEGRITY failure, that of a signature. -/
def authFail (s : State) : State :=
  raise 0x4F5 { s with lcy.authFails := satAdd 0xFF s.lcy.authFails 1, dbg.lockout := true, dbg.faultCode := 0xB, dbg.faultSub := 2 }

/-- R128, R129: VENDOR_SESSION. -/
def vendorSession (crc : Byte) (s : State) : State :=
  dbgCommand 0x21 (fun s => s.lcy.shadow == .ret) crc (fun s =>
    match s.dbg.nonce with
    | none => dbgFaultSub 5 3 s
    | some n => dbgOk 0 (authStart .vendor n 0x56454E44 s)) s

/-- R128. -/
def execVendorSession (crc : Byte) (s : State) : Out := .next (vendorSession crc s)

/-- R128, R129: RETURN_REQUEST: the token first, then the signature; every check consumes the nonce. -/
def returnRequest (crc : Byte) (s : State) : State :=
  dbgCommand 0x22 (fun s => s.lcy.shadow == .sealed) crc (fun s =>
    let used := { s with dbg.nonce := none }
    match s.lcy.tokenHash, s.dbg.nonce with
    | none, _ => dbgFault 5 used
    | _, none => dbgFaultSub 5 3 s
    | some h, some n =>
      if sha256 (beBytes64 s.dbg.token) != h then dbgFaultSub 0xB 1 (authFail used)
      else dbgOk 0 (authStart .returnReq n 0x5254524E s)) s

/-- R128. -/
def execReturnRequest (crc : Byte) (s : State) : Out := .next (returnRequest crc s)

/-- R128: the debug VOID command. -/
def dbgVoid (crc : Byte) (s : State) : State :=
  dbgCommand 0x30 dbgMayRun crc (fun s =>
    if s.dbg.arg != 0x564F4944 then dbgFault 3 s else dbgOk 0 (quietStop .toVoid s)) s

/-- R128. -/
def execDbgVoid (crc : Byte) (s : State) : Out := .next (dbgVoid crc s)

/-- R126, R128, R133: DWRITE. A value of DBG_CMD is its command of Table 06.6. DESIGN CHOICE: a value that the table does not
list draws FAULT with BADARG, as an index does that Table 06.7 does not list (assumption log 43). -/
def execDbgDwrite (idx : BitVec 5) (w : Word) (crc : Byte) (s : State) : Out :=
  .next (
    if idx = 2 then
      match w.toNat with
      | 0x01 => dbgHalt crc s
      | 0x02 => dbgResume crc s
      | 0x03 => dbgStep crc s
      | 0x10 => dbgReset crc s
      | 0x20 => challenge crc s
      | 0x21 => vendorSession crc s
      | 0x22 => returnRequest crc s
      | 0x30 => dbgVoid crc s
      | _ => dbgCommand w (fun _ => true) crc (dbgFault 2) s
    else dbgFrame .dwrite idx.toNat [w] crc (fun s =>
      match dbgStore idx.toNat w s with | some t => dbgOk 0 t | none => dbgFault 2 s) s)

/-- R129, R131: the signature check ends; a success in a quiet stop, which ends in reset, starts nothing more. -/
def execDbgAuthComplete (s : State) : Out :=
  .next (
    match s.dbg.auth with
    | none => s
    | some k =>
      let s1 := { s with dbg.auth := none, dbg.authOk := false }
      if !s.dbg.authOk then authFail s1
      else
        let s2 := { s1 with lcy.authFails := 0 }
        match k with
        | .vendor => raise 0x4F6 { s2 with dbg.session := true }
        | .returnReq => quietStop .toReturn s2)

/-- R129: CHALLENGE is possible again. -/
def execAuthLockoutExpiry (s : State) : Out := .next { s with dbg.lockout := false }

end Sys2Proof.Machine
end

