-- ==== Sys2Proof/Machine/Remote.lean ====
section
/-! DEFINITION. Accesses to the system space from the USB host (R330) and over the ring (R353, R355). -/

namespace Sys2Proof.Machine

/-! ### USB READ and WRITE (R330, Table 16.5) -/

/-- Table 16.5: wLength is a multiple of 4 from 4 to 64. -/
def wLengthOk (n : Nat) : Bool := n % 4 == 0 && decide (4 ≤ n) && decide (n ≤ 64)

/-- R330: words read upward from the USB access address, which advances; `es`: what the ECC check of each finds. -/
def usbReadWords : Nat → List Ecc → State → List Byte × State
  | 0, _, s => ([], s)
  | n + 1, es, s =>
    let (r, s) := sysRead .usb s.usb.acc.toNat (es.headD .clean) s
    let (bs, s) := usbReadWords n es.tail { s with usb.acc := s.usb.acc + 4 }
    (leBytes r.word ++ bs, s)

/-- R330: words written upward from the USB access address, which advances; `hits`: which of them lose to an owner port
(R269). -/
def usbWriteWords : List Word → List Bool → State → State
  | [], _, s => s
  | w :: ws, hits, s =>
    let s := (sysWrite .usb s.usb.acc.toNat w 0xF (hits.headD false) .clean s).2
    usbWriteWords ws hits.tail { s with usb.acc := s.usb.acc + 4 }

/-- R330: READ of `len` bytes. -/
def execUsbRead (len : BitVec 16) (es : List Ecc) (s : State) : Out :=
  .next (
    if !usbConfigured s then s
    else if !wLengthOk len.toNat then stall s
    else
      let (bs, s) := usbReadWords (len.toNat / 4) es s
      answer bs s)

/-- R330: WRITE of the bytes `data`. -/
def execUsbWrite (data : List Byte) (hits : List Bool) (s : State) : Out :=
  .next (
    if !usbConfigured s then s
    else if !wLengthOk data.length then stall s
    else answer [] (usbWriteWords ((List.range (data.length / 4)).map (leWord data)) hits s))

/-! ### Ring SET_ADDR, READ and WRITE (R353, R355) -/

/-- The RESULT of an access: a status code with the read data, kept for a repeat (R355). -/
def ringResultTo (m : RingMsg) (code : Byte) (data : Word) (s : State) : State :=
  ringPost { typ := tResult, dst := m.src, seq := m.seq, arg := code, data := data } { s with
    ring.lastAcc := (m.src, m.typ, m.seq, code, data) :: s.ring.lastAcc.filter (·.1 != m.src) }

/-- R355: a repeated access is answered with the stored RESULT; any other is acted on. -/
def ringAccess (t : BitVec 4) (act : RingMsg → State → State) (s : State) : State :=
  match ringTake t s with
  | (none, s) => s
  | (some m, s) =>
    match s.ring.lastAcc.find? fun a => a.1 == m.src && a.2.1 == m.typ && a.2.2.1 == m.seq with
    | some (_, _, _, code, data) =>
      ringPost { typ := tResult, dst := m.src, seq := m.seq, arg := code, data := data } s
    | none => act m s

/-- R355: how an access ended, as a status code of Table 00.5; the spec names none for an error response. -/
def ringCode (r : Reply) (s : State) : Byte × State :=
  match r with
  | .collided => (0xD, s)
  | .sealed => (0xC, s)
  | .err =>
    let (code, s) := takeCode s
    (BitVec.ofNat 8 code, s)
  | _ => (0, s)

/-- R353: SET_ADDR; an address that is not a multiple of 4 is answered with RANGE. -/
def execRingSetAddr (s : State) : Out :=
  .next (ringAccess tSetAddr (fun m s =>
    if m.data.toNat % 4 = 0 then ringResultTo m 0 0 { s with ring.acc := m.data } else ringResultTo m 3 0 s) s)

/-- R353: READ of the word at the ring access address, which advances. -/
def execRingRead (e : Ecc) (s : State) : Out :=
  .next (ringAccess tRead (fun m s =>
    let (r, s) := sysRead .ring s.ring.acc.toNat e s
    let (code, s) := ringCode r s
    ringResultTo m code r.word { s with ring.acc := s.ring.acc + 4 }) s)

/-- R353: WRITE of the word at the ring access address, which advances. -/
def execRingWrite (hit : Bool) (s : State) : Out :=
  .next (ringAccess tWrite (fun m s =>
    let (r, s) := sysWrite .ring s.ring.acc.toNat m.data 0xF hit .clean s
    let (code, s) := ringCode r s
    ringResultTo m code 0 { s with ring.acc := s.ring.acc + 4 }) s)

end Sys2Proof.Machine
end

