-- ==== Sys2Proof/Machine/Tick.lean ====
section
/-! DEFINITION. The frame boundary (R14 to R21, R89 to R92), the entry into a power mode and the return to RUN (R56 to R59,
R65, R284). -/

namespace Sys2Proof.Machine

/-! ### Committed changes take effect (R19, R21) -/

/-- The effect of a field that takes its value at a tick, beside the value itself; `was` is the value before. -/
def fieldEffect (blk fid was v : Nat) (s : State) : State :=
  match blk with
  | 0x10 | 0x11 | 0x12 | 0x13 => if fid = 0x001 then spEnable (blk - 0x10) v s else s
  | 0x14 => if fid = 0x001 then usbEnable v s else s
  | 0x15 => if fid = 0x001 then (if v = 1 then ringStart s else ringStop s) else s
  | 0x19 => if (fid = 0x001 ∨ fid = 0x002) ∧ was ≠ v then vaultReseal s else s
  | _ => s

/-- One committed field at its tick. A tone generator is started from the state in which its EN still reads the old
value. -/
def applyField (key v : Nat) (s : State) : State :=
  let blk := key / 0x1000
  let fid := key % 0x1000
  let was := fldK key s
  let t := if blk = 0x29 ∧ 0x100 ≤ fid ∧ fid % 16 = 0 then toneEnable ((fid - 0x100) / 16) v s else s
  fieldEffect blk fid was v (setFldK key v t)

/-- One committed change at its tick. -/
def applyChange (s : State) : FlowChange → State
  | .field k v => applyField k v s
  | .route r k i n => { s with strm.s := applyRoute r k i n s.strm.s }
  | .cstart n entry code words dbase dlen arg => startCtx n entry code words dbase dlen arg s
  | .cstop n rel => stopCtx n rel s

/-- The change is one of the two timing fields. -/
def FlowChange.timing : FlowChange → Bool
  | .field k _ => timingKey k
  | _ => false

/-- R89: a timing change is applied: the pair takes its values and every port's queues are recentred. -/
def applyTiming (changes : List FlowChange) (s : State) : State :=
  recentreAll (changes.foldl (fun t c => match c with | .field k v => setFldK k v t | _ => t) s)

/-- R21: the timing change, then the other changes in commit order. -/
def applyFlow (timing : Bool) (s : State) : State :=
  let cs := s.flow
  let s := { s with flow := [] }
  let s := if timing then applyTiming (cs.filter FlowChange.timing) s else s
  (cs.filter fun c => !c.timing).foldl applyChange s

/-! ### The exchange (R16, R17) -/

/-- Thirds of a millisecond that the present frame lasts. -/
def frameThirds (s : State) : Nat := if fld 0x01 0x011 s = 1 then 1 else 3

/-- What closes with the frame: overruns, concealment and silence of failed lanes, the capture of every input, Brine's
totals, and the hand-over of every stream to its readers; in a flush all streams are zero (R89). -/
def closeFrame (flush : Bool) (inp : TickIn) (s : State) : State :=
  let F := frameLen s
  let s := failStreams flush (tickOverruns s)
  let s := portHandover F (usbTickPre s)
  let s := toneHandover F (frameThirds s) (captureMics inp F (frameThirds s) s)
  let s := keepPrevGains (brineClose F flush s)
  exchange (fun n => (ctxAt n s).ran) flush s

/-- R255: some lane fault of the frame that closes is served by LX. -/
def remaps (s : State) : Bool := s.lane.fails.any (·.spare)

/-- R195, R196, R208: the contexts open their frame. -/
def startContexts (s : State) : State := countStarve (buildLists (openCtxs (keepCounts s)))

/-- The parts that follow the frame without a stream. -/
def frameSides (inp : TickIn) (thirds short : Nat) (timing : Bool) (s : State) : State :=
  let s := pdmClocks (hpTick (usbTickPost s))
  let s := loutTick thirds (emitOutputs (spkTick thirds inp.spkClip (ringForm s)))
  let s := { s with
    boost.ilimLeft := s.boost.ilimLeft - thirds, mic.clipFrame := false, pipe.ovrFrame := false
    vault.openLeft := s.vault.openLeft - thirds }
  haloTick s.clk.frameCnt short timing s

/-- R103, R114, R77, R41, R118: the first tick after handover, and the events owed to it. -/
def bootTick (s : State) : State :=
  if s.rst.bootDone then s else
  let s' := raiseIf s.pin.badDue 0x4F8 (raiseIf s.clk.refAbsent 0x403 (raiseIf s.rst.keepLostDue 0x4F3
    (raiseIf s.rst.fallbackDue 0x4F1 (raise 0x4F0 s))))
  { s' with
    rst.bootDone := true, rst.fallbackDue := false, rst.keepLostDue := false, clk.refAbsent := false
    pin.badDue := false }

/-! ### Power modes (R56 to R59, R65) -/

/-- The code of PWR.MODE. -/
def modeOf (v : Nat) : PowerMode := match v with | 0 => .run | 1 => .listen | 2 => .standby | _ => .shutdown

/-- Table 03.3: SP0 to SP3 stop in every mode but RUN. -/
def portsStop (s : State) : State :=
  (List.range 4).foldl (fun t n => if (spAt n t).state == .off then t else spStop n t) s

/-- The enabled serial ports start again. -/
def portsStart (s : State) : State :=
  (List.range 4).foldl (fun t n => if fld (portBlk n) 0x001 t = 1 then spStart n t else t) s

/-- R392 and its corner: the re-seal at a mode entry; a hardware wake of this moment still opens the vault at the first
tick of RUN where the vault goes on recording. -/
def entryReseal (m : PowerMode) (s : State) : State :=
  let t := vaultReseal s
  if m == .listen then { t with vault.firedPtt := s.vault.firedPtt, vault.firedVoice := s.vault.firedVoice } else t

/-- R376: outside RUN and LISTEN no PDM clock runs. -/
def pdmEntry (m : PowerMode) (s : State) : State := if m == .listen then pdmRateChange s else { s with mic.pdmClk := 0 }

/-- Table 03.3: no class-H pump outside RUN: outputs that an enable after the mode's CFG has started go Hi-Z at once. -/
def hpModeEntry (s : State) : State :=
  if hpIdle s then s
  else { s with
    hp.state := if fld 0x2A 0x001 s == 1 then .armed else .off
    hp.railHigh := false, hp.step := .none, hp.removal := false }

/-- Table 03.3: without the boost no half-bridge switches: a channel that an enable after the mode's CFG has started waits
for PGOOD again. -/
def spkModeEntry (s : State) : State :=
  let one (x : Nat) (s : State) : State :=
    match (spkAt x s).state with
    | .starting | .running | .stopping | .muted =>
      setSpk x { spkAt x s with state := if spkEn x s then .waitBoost else .off, window := false } s
    | _ => s
  one 1 (one 0 s)

/-- Table 03.3, R80: the rails and the main PLL of the mode. SHUTDOWN puts every ball in its reset phase. -/
def railModeEntry (m : PowerMode) (s : State) : State :=
  { s with
    clk.pllLock := false
    sup.vanaOk := s.sup.vanaOk && m == .listen
    sup.vcoreOk := s.sup.vcoreOk && m != .shutdown
    pin.assigned := if m == .shutdown then 0 else s.pin.assigned }

/-- R115: SHUTDOWN is left by a reset; with a source kept from before the entry it is left at once. -/
def exitAtOnce (m : PowerMode) (s : State) : State :=
  let w := s.sup.wakePend
  let s := { s with sup.wakePend := 0 }
  if w = 0 then s
  else if m == .shutdown then
    { assertReset .shutdownWake s with rst.phase := .regulators, rst.capWake := w }
  else { s with sup.waking := true, sup.wakeCause := s.sup.wakeCause ||| w }

/-- R58: the mode is entered. -/
def enterMode (m : PowerMode) (s : State) : State :=
  let s := { s with sup.drainWait := none }
  let s := ringModeEntry (twcAbort (haloModeEntry m (glintModeEntry s)))
  let s := if m == .shutdown then usbUnplug s else usbModeEntry s
  let s := pdmEntry m (spkModeEntry (hpModeEntry (boostStop (entryReseal m (portsStop s)))))
  exitAtOnce m (raise 0x4D0 { railModeEntry m s with
    sup.modeCur := m, sup.wakeTimerOn := fld 0x02 0x003 s != 0 })

/-- R58: the tick that enters a mode starts no context: the run lists are empty, and every stream is silent. -/
def haltFrame (s : State) : State :=
  let s := openCtxs s
  { s with
    lane.ctx := s.lane.ctx.foldl (fun r p => smSet {} p.1 { p.2 with ran := false } r) []
    lane.runList := Vector.replicate 16 []
    lane.turn := 0
    lane.inFrame := false
    lane.scDone := 0
    out.frame := Vector.replicate 6 []
    strm.s := s.strm.s.foldl (fun r p => smSet {} p.1 { p.2 with rbuf := [], wbuf := [], sent := false } r) [] }

/-- R284: the entry waits until the Glacier write queue is empty. -/
def requestMode (m : PowerMode) (s : State) : State :=
  if s.mem.glQueue.isEmpty then enterMode m s else { s with sup.drainWait := some m }

/-- R315: a frame after it stopped, every master port has finished its sample period. -/
def spFinishAll (s : State) : State := (List.range 4).foldl (fun t n => spFinish n t) s

/-! ### The tick -/

/-- R16, R19, R21, R89: the tick up to the opening of the frame's contexts. -/
def tickFlow (inp : TickIn) (s : State) : State :=
  let timing := timingPending s
  let owned := brineOwns s
  let locked := lockedBanks s
  let remap := remaps s
  let flow := flowPending s || remap
  let short := fld 0x01 0x011 s
  let thirds := frameThirds s
  let s := closeFrame timing inp (spFinishAll s)
  let s := { s with clk.frameCnt := s.clk.frameCnt + 1, rst.resets := [] }
  let s := brineTakeStore owned (applyFlow timing (takeovers { s with clk.flush := timing }))
  let s := if timing then keepLocks locked s else s
  let s := if flow || timing then { s with clk.lastApply := s.clk.frameCnt } else s
  let s := raiseIf timing 0x402 (raiseIf flow 0x401 s)
  vaultRecord inp.wake (frameSides inp thirds short timing s)

/-- R16: a tick; while a mode entry waits for the Glacier store there is none. -/
def execTick (inp : TickIn) (s : State) : Out :=
  .next (
    if !ticking s || s.sup.drainWait.isSome then s else
    let s := bootTick (tickFlow inp s)
    match modeOf (fld 0x02 0x001 s) with
    | .run => vaultOpenTick (startContexts s)
    | m => requestMode m (haltFrame (keepCounts s)))

/-- R284: the Glacier write queue is empty and the mode that waited for it is entered. -/
def execModeEntryAfterDrain (s : State) : Out :=
  .next (
    match s.sup.drainWait with
    | some m => if s.mem.glQueue.isEmpty then enterMode m s else s
    | none => s)

/-- R57, R58, R80: the return to RUN from LISTEN or STANDBY; the main PLL has relocked. -/
def execWakeExit (s : State) : Out :=
  .next (
    if !(s.sup.waking && s.sup.modeCur != .run) then s else
    let s := setFld 0x02 0x001 0 { s with
      sup.modeCur := .run, sup.waking := false, sup.wakeTimerOn := false, clk.pllLock := true
      sup.vanaOk := s.sup.vanaOk || s.sup.modeCur == .standby }
    let s := usbPumpStart (portsStart (ringRestart (glintRestart (btnReturn s))))
    let s := pdmRateChange (pdmClocks s)
    raise 0x4D1 (if fld 0x31 0x001 s = 1 then boostEnable 1 s else s))

end Sys2Proof.Machine
end

