-- ==== Sys2Proof/Machine/Dispatch.lean ====
section
/-! DEFINITION. The dispatch: one arm for each command of the table, each one direct call of its meaning. -/

namespace Sys2Proof.Machine

/-- The effect of one command on everything but the queue. -/
def exec (i : Instr) (s : State) : Host.Outcome State Fault Refusal :=
  match i with
  | .porRelease => Sys2Proof.Machine.execPorRelease s
  | .bor late => Sys2Proof.Machine.execBor late s
  | .keepDomainLost => Sys2Proof.Machine.execKeepDomainLost s
  | .rstNPulse ns late => Sys2Proof.Machine.execRstNPulse ns late s
  | .rstNRelease => Sys2Proof.Machine.execRstNRelease s
  | .resetHoldExpiry => Sys2Proof.Machine.execResetHoldExpiry s
  | .thermalReset same => Sys2Proof.Machine.execThermalReset same s
  | .thermalResetRelease => Sys2Proof.Machine.execThermalResetRelease s
  | .thermalComparatorSample hot => Sys2Proof.Machine.execThermalComparatorSample hot s
  | .watchdogExpiry same => Sys2Proof.Machine.execWatchdogExpiry same s
  | .regulatorRetry => Sys2Proof.Machine.execRegulatorRetry s
  | .pllLocked pinOk => Sys2Proof.Machine.execPllLocked pinOk s
  | .refAbsentTimeout => Sys2Proof.Machine.execRefAbsentTimeout s
  | .internalResetRelease boot ckmode => Sys2Proof.Machine.execInternalResetRelease boot ckmode s
  | .imageCheckComplete aOk bOk eeprom => Sys2Proof.Machine.execImageCheckComplete aOk bOk eeprom s
  | .hostImageSubmit => Sys2Proof.Machine.execHostImageSubmit s
  | .tick inp => Sys2Proof.Machine.execTick inp s
  | .modeEntryAfterDrain => Sys2Proof.Machine.execModeEntryAfterDrain s
  | .regOutOfRegulation r => Sys2Proof.Machine.execRegOutOfRegulation r s
  | .regBackInRegulation r => Sys2Proof.Machine.execRegBackInRegulation r s
  | .regFailTimeout same => Sys2Proof.Machine.execRegFailTimeout same s
  | .vkeepCheckTimeout => Sys2Proof.Machine.execVkeepCheckTimeout s
  | .keepChargeDrop => Sys2Proof.Machine.execKeepChargeDrop s
  | .wakeSource w => Sys2Proof.Machine.execWakeSource w s
  | .wakeExit => Sys2Proof.Machine.execWakeExit s
  | .wakeTimerExpiry => Sys2Proof.Machine.execWakeTimerExpiry s
  | .vsupSample mv => Sys2Proof.Machine.execVsupSample mv s
  | .sagStepRelease => Sys2Proof.Machine.execSagStepRelease s
  | .boostPgood => Sys2Proof.Machine.execBoostPgood s
  | .boostOvp => Sys2Proof.Machine.execBoostOvp s
  | .boostOvpRecovery => Sys2Proof.Machine.execBoostOvpRecovery s
  | .boostSsTimeout => Sys2Proof.Machine.execBoostSsTimeout s
  | .boostIlim => Sys2Proof.Machine.execBoostIlim s
  | .refMonitorPeriod count => Sys2Proof.Machine.execRefMonitorPeriod count s
  | .refLost => Sys2Proof.Machine.execRefLost s
  | .refRestored => Sys2Proof.Machine.execRefRestored s
  | .pllUnlock => Sys2Proof.Machine.execPllUnlock s
  | .pllUnlockTimeout same => Sys2Proof.Machine.execPllUnlockTimeout same s
  | .portSamplePeriod port side samples clk => Sys2Proof.Machine.execPortSamplePeriod port side samples clk s
  | .asrcLock bank => Sys2Proof.Machine.execAsrcLock bank s
  | .asrcUnlock bank => Sys2Proof.Machine.execAsrcUnlock bank s
  | .dbgDread idx crc => Sys2Proof.Machine.execDbgDread idx crc s
  | .dbgDwrite idx w crc => Sys2Proof.Machine.execDbgDwrite idx w crc s
  | .dbgRead a crc e => Sys2Proof.Machine.execDbgRead a crc e s
  | .dbgWrite a w crc hit => Sys2Proof.Machine.execDbgWrite a w crc hit s
  | .debugShifterReset => Sys2Proof.Machine.execDebugShifterReset s
  | .dbgHalt crc => Sys2Proof.Machine.execDbgHalt crc s
  | .dbgResume crc => Sys2Proof.Machine.execDbgResume crc s
  | .dbgStep crc => Sys2Proof.Machine.execDbgStep crc s
  | .dbgReset crc => Sys2Proof.Machine.execDbgReset crc s
  | .challenge crc => Sys2Proof.Machine.execChallenge crc s
  | .vendorSession crc => Sys2Proof.Machine.execVendorSession crc s
  | .returnRequest crc => Sys2Proof.Machine.execReturnRequest crc s
  | .dbgVoid crc => Sys2Proof.Machine.execDbgVoid crc s
  | .dbgAuthComplete => Sys2Proof.Machine.execDbgAuthComplete s
  | .authLockoutExpiry => Sys2Proof.Machine.execAuthLockoutExpiry s
  | .twhAddress a read early => Sys2Proof.Machine.execTwhAddress a read early s
  | .twhPointerWrite b => Sys2Proof.Machine.execTwhPointerWrite b s
  | .twhWriteByte b => Sys2Proof.Machine.execTwhWriteByte b s
  | .twhReadByte nak late e => Sys2Proof.Machine.execTwhReadByte nak late e s
  | .twhStop again => Sys2Proof.Machine.execTwhStop again s
  | .twhBusError again => Sys2Proof.Machine.execTwhBusError again s
  | .twhSdaTimeout => Sys2Proof.Machine.execTwhSdaTimeout s
  | .apertureWrite a w be => Sys2Proof.Machine.execApertureWrite a w be s
  | .apertureWriteComplete hit e => Sys2Proof.Machine.execApertureWriteComplete hit e s
  | .paramSelect b => Sys2Proof.Machine.execParamSelect b s
  | .pageWrite w be => Sys2Proof.Machine.execPageWrite w be s
  | .evtGroupClear g mask again => Sys2Proof.Machine.execEvtGroupClear g mask again s
  | .doorbell b => Sys2Proof.Machine.execDoorbell b s
  | .stewardTakeBlock => Sys2Proof.Machine.execStewardTakeBlock s
  | .performDone src res => Sys2Proof.Machine.execPerformDone src res s
  | .performTimeout src idx => Sys2Proof.Machine.execPerformTimeout src idx s
  | .cfg src blk fid v => Sys2Proof.Machine.execCfg src blk fid v s
  | .cfgl src blk fid v reg => Sys2Proof.Machine.execCfgl src blk fid v reg s
  | .claim src blk u => Sys2Proof.Machine.execClaim src blk u s
  | .release src blk u => Sys2Proof.Machine.execRelease src blk u s
  | .load src dst a => Sys2Proof.Machine.execLoad src dst a s
  | .loadCopyDone src => Sys2Proof.Machine.execLoadCopyDone src s
  | .cstart src ctx rec => Sys2Proof.Machine.execCstart src ctx rec s
  | .cstop src ctx => Sys2Proof.Machine.execCstop src ctx s
  | .cstopRelease src ctx => Sys2Proof.Machine.execCstopRelease src ctx s
  | .routeWriter src kind idx n => Sys2Proof.Machine.execRouteWriter src kind idx n s
  | .routeReader src kind idx n => Sys2Proof.Machine.execRouteReader src kind idx n s
  | .routeUnread src kind idx n => Sys2Proof.Machine.execRouteUnread src kind idx n s
  | .routeFree src n => Sys2Proof.Machine.execRouteFree src n s
  | .bankpwr src u mask st => Sys2Proof.Machine.execBankpwr src u mask st s
  | .bankTransitionDone u q => Sys2Proof.Machine.execBankTransitionDone u q s
  | .breset src blk u => Sys2Proof.Machine.execBreset src blk u s
  | .bresetRst src u => Sys2Proof.Machine.execBresetRst src u s
  | .lcyreqSeal src => Sys2Proof.Machine.execLcyreqSeal src s
  | .lcyreqWriteToken src token => Sys2Proof.Machine.execLcyreqWriteToken src token s
  | .lcyreqFuseWrite src idx v => Sys2Proof.Machine.execLcyreqFuseWrite src idx v s
  | .lcyreqVoid src confirm => Sys2Proof.Machine.execLcyreqVoid src confirm s
  | .transitionReset => Sys2Proof.Machine.execTransitionReset s
  | .calrunSarCal src force u => Sys2Proof.Machine.execCalrunSarCal src force u s
  | .calrunPipeAvg src force u => Sys2Proof.Machine.execCalrunPipeAvg src force u s
  | .calrunAadcOffset src force u => Sys2Proof.Machine.execCalrunAadcOffset src force u s
  | .calrunAadcSelftest src force u => Sys2Proof.Machine.execCalrunAadcSelftest src force u s
  | .calrunMicArray src force u => Sys2Proof.Machine.execCalrunMicArray src force u s
  | .twcStart src => Sys2Proof.Machine.execTwcStart src s
  | .twcClear src => Sys2Proof.Machine.execTwcClear src s
  | .twcBusFree => Sys2Proof.Machine.execTwcBusFree s
  | .twcArbLost => Sys2Proof.Machine.execTwcArbLost s
  | .twcBusTimeout sclLow sdaLow => Sys2Proof.Machine.execTwcBusTimeout sclLow sdaLow s
  | .twcStretchTimeout => Sys2Proof.Machine.execTwcStretchTimeout s
  | .twcTransferDone nak rd es => Sys2Proof.Machine.execTwcTransferDone nak rd es s
  | .wdogKick src v => Sys2Proof.Machine.execWdogKick src v s
  | .laneFaultInject src v => Sys2Proof.Machine.execLaneFaultInject src v s
  | .nop who => Sys2Proof.Machine.execNop who s
  | .add who vd vs vt => Sys2Proof.Machine.execAdd who vd vs vt s
  | .sub who vd vs vt => Sys2Proof.Machine.execSub who vd vs vt s
  | .addw who vd vs vt => Sys2Proof.Machine.execAddw who vd vs vt s
  | .subw who vd vs vt => Sys2Proof.Machine.execSubw who vd vs vt s
  | .neg who vd vs => Sys2Proof.Machine.execNeg who vd vs s
  | .abs who vd vs => Sys2Proof.Machine.execAbs who vd vs s
  | .min who vd vs vt => Sys2Proof.Machine.execMin who vd vs vt s
  | .max who vd vs vt => Sys2Proof.Machine.execMax who vd vs vt s
  | .mul who vd vs vt => Sys2Proof.Machine.execMul who vd vs vt s
  | .muli who vd vs vt => Sys2Proof.Machine.execMuli who vd vs vt s
  | .and who vd vs vt => Sys2Proof.Machine.execAnd who vd vs vt s
  | .or who vd vs vt => Sys2Proof.Machine.execOr who vd vs vt s
  | .xor who vd vs vt => Sys2Proof.Machine.execXor who vd vs vt s
  | .not who vd vs => Sys2Proof.Machine.execNot who vd vs s
  | .shl who vd vs sub => Sys2Proof.Machine.execShl who vd vs sub s
  | .shr who vd vs sub => Sys2Proof.Machine.execShr who vd vs sub s
  | .sar who vd vs sub => Sys2Proof.Machine.execSar who vd vs sub s
  | .shls who vd vs sub => Sys2Proof.Machine.execShls who vd vs sub s
  | .ash who vd vs vt => Sys2Proof.Machine.execAsh who vd vs vt s
  | .clip who vd vs vt => Sys2Proof.Machine.execClip who vd vs vt s
  | .qnt who vd vs sub => Sys2Proof.Machine.execQnt who vd vs sub s
  | .norm who vd vs => Sys2Proof.Machine.execNorm who vd vs s
  | .satclr who => Sys2Proof.Machine.execSatclr who s
  | .satget who vd => Sys2Proof.Machine.execSatget who vd s
  | .fadd who vd vs vt => Sys2Proof.Machine.execFadd who vd vs vt s
  | .fsub who vd vs vt => Sys2Proof.Machine.execFsub who vd vs vt s
  | .fmul who vd vs vt => Sys2Proof.Machine.execFmul who vd vs vt s
  | .fmac who vd vs vt => Sys2Proof.Machine.execFmac who vd vs vt s
  | .fdiv who vd vs vt => Sys2Proof.Machine.execFdiv who vd vs vt s
  | .fsqrt who vd vs => Sys2Proof.Machine.execFsqrt who vd vs s
  | .fmin who vd vs vt => Sys2Proof.Machine.execFmin who vd vs vt s
  | .fmax who vd vs vt => Sys2Proof.Machine.execFmax who vd vs vt s
  | .fabs who vd vs => Sys2Proof.Machine.execFabs who vd vs s
  | .fneg who vd vs => Sys2Proof.Machine.execFneg who vd vs s
  | .ftoq who vd vs sub => Sys2Proof.Machine.execFtoq who vd vs sub s
  | .qtof who vd vs sub => Sys2Proof.Machine.execQtof who vd vs sub s
  | .ftoi who vd vs => Sys2Proof.Machine.execFtoi who vd vs s
  | .itof who vd vs => Sys2Proof.Machine.execItof who vd vs s
  | .cmp who qd vs vt cc f z comb => Sys2Proof.Machine.execCmp who qd vs vt cc f z comb s
  | .qset who qd imm => Sys2Proof.Machine.execQset who qd imm s
  | .qand who qd qs qt => Sys2Proof.Machine.execQand who qd qs qt s
  | .qor who qd qs qt => Sys2Proof.Machine.execQor who qd qs qt s
  | .qxor who qd qs qt => Sys2Proof.Machine.execQxor who qd qs qt s
  | .qandn who qd qs qt => Sys2Proof.Machine.execQandn who qd qs qt s
  | .qnot who qd qs => Sys2Proof.Machine.execQnot who qd qs s
  | .qtov who v qs => Sys2Proof.Machine.execQtov who v qs s
  | .vtoq who qd v => Sys2Proof.Machine.execVtoq who qd v s
  | .mov who vd vs => Sys2Proof.Machine.execMov who vd vs s
  | .sel who vd vs vt q => Sys2Proof.Machine.execSel who vd vs vt q s
  | .pget who vd p => Sys2Proof.Machine.execPget who vd p s
  | .pgets who vd p => Sys2Proof.Machine.execPgets who vd p s
  | .lcget who vd k => Sys2Proof.Machine.execLcget who vd k s
  | .pack who vd vs vt => Sys2Proof.Machine.execPack who vd vs vt s
  | .addi who vd vs imm => Sys2Proof.Machine.execAddi who vd vs imm s
  | .movi who vd imm => Sys2Proof.Machine.execMovi who vd imm s
  | .movhi who vd imm => Sys2Proof.Machine.execMovhi who vd imm s
  | .mac who ad vs vt vu vw clr neg1 neg2 single => Sys2Proof.Machine.execMac who ad vs vt vu vw clr neg1 neg2 single s
  | .macp who ad pj pk clr neg es => Sys2Proof.Machine.execMacp who ad pj pk clr neg es s
  | .rnd who vd k => Sys2Proof.Machine.execRnd who vd k s
  | .rndsh who vd k sh => Sys2Proof.Machine.execRndsh who vd k sh s
  | .aclr who k => Sys2Proof.Machine.execAclr who k s
  | .ald who k vs => Sys2Proof.Machine.execAld who k vs s
  | .aadd who k vs => Sys2Proof.Machine.execAadd who k vs s
  | .amov who k j => Sys2Proof.Machine.execAmov who k j s
  | .bq who vd vs pc ps es hits => Sys2Proof.Machine.execBq who vd vs pc ps es hits s
  | .bfly who vd vs vt sh => Sys2Proof.Machine.execBfly who vd vs vt sh s
  | .ld who vd pk size inc es => Sys2Proof.Machine.execLd who vd pk size inc es s
  | .st who vd pk size inc es hits => Sys2Proof.Machine.execSt who vd pk size inc es hits s
  | .pseta who pk vs imm => Sys2Proof.Machine.execPseta who pk vs imm s
  | .psets who pk vs imm => Sys2Proof.Machine.execPsets who pk vs imm s
  | .psetl who pk imm => Sys2Proof.Machine.execPsetl who pk imm s
  | .pstep who pk imm => Sys2Proof.Machine.execPstep who pk imm s
  | .loop who reg count last => Sys2Proof.Machine.execLoop who reg count last s
  | .lbrk who => Sys2Proof.Machine.execLbrk who s
  | .srd who pk vh hoff => Sys2Proof.Machine.execSrd who pk vh hoff s
  | .swr who pk vh hoff es => Sys2Proof.Machine.execSwr who pk vh hoff es s
  | .sget who vd vp vh hoff => Sys2Proof.Machine.execSget who vd vp vh hoff s
  | .sput who vd vp vh hoff => Sys2Proof.Machine.execSput who vd vp vh hoff s
  | .bsend who vh hoff => Sys2Proof.Machine.execBsend who vh hoff s
  | .evt who => Sys2Proof.Machine.execEvt who s
  | .waitf who => Sys2Proof.Machine.execWaitf who s
  | .yield who => Sys2Proof.Machine.execYield who s
  | .br who target => Sys2Proof.Machine.execBr who target s
  | .brt who q target => Sys2Proof.Machine.execBrt who q target s
  | .brf who q target => Sys2Proof.Machine.execBrf who q target s
  | .call who target => Sys2Proof.Machine.execCall who target s
  | .jmpr who vs => Sys2Proof.Machine.execJmpr who vs s
  | .illegalStewardWord => Sys2Proof.Machine.execIllegalStewardWord s
  | .laneFault phys t addr slot found => Sys2Proof.Machine.execLaneFault phys t addr slot found s
  | .laneWatchdog phys same => Sys2Proof.Machine.execLaneWatchdog phys same s
  | .selfCheckPass phys ok same => Sys2Proof.Machine.execSelfCheckPass phys ok same s
  | .scStarved phys => Sys2Proof.Machine.execScStarved phys s
  | .ramScrubAccess a found => Sys2Proof.Machine.execRamScrubAccess a found s
  | .glacierRowProgram => Sys2Proof.Machine.execGlacierRowProgram s
  | .glacierScrubRead found => Sys2Proof.Machine.execGlacierScrubRead found s
  | .spFsEdge port bclks inRate => Sys2Proof.Machine.execSpFsEdge port bclks inRate s
  | .spLost port noBclk => Sys2Proof.Machine.execSpLost port noBclk s
  | .vbusValid => Sys2Proof.Machine.execVbusValid s
  | .vbusLost => Sys2Proof.Machine.execVbusLost s
  | .usbAttach => Sys2Proof.Machine.execUsbAttach s
  | .getDescriptor k => Sys2Proof.Machine.execGetDescriptor k s
  | .setInterface inDir alt => Sys2Proof.Machine.execSetInterface inDir alt s
  | .setCurSamFreq hz => Sys2Proof.Machine.execSetCurSamFreq hz s
  | .setCurMuteVolume inDir mute vol => Sys2Proof.Machine.execSetCurMuteVolume inDir mute vol s
  | .setReport b => Sys2Proof.Machine.execSetReport b s
  | .hidReport ack => Sys2Proof.Machine.execHidReport ack s
  | .setFeatureTestMode m => Sys2Proof.Machine.execSetFeatureTestMode m s
  | .usbIsoOutPacket r periods => Sys2Proof.Machine.execUsbIsoOutPacket r periods s
  | .usbFeedbackUpdate => Sys2Proof.Machine.execUsbFeedbackUpdate s
  | .usbSubmit data => Sys2Proof.Machine.execUsbSubmit data s
  | .usbResponse => Sys2Proof.Machine.execUsbResponse s
  | .usbSetAddr a => Sys2Proof.Machine.execUsbSetAddr a s
  | .usbRead len es => Sys2Proof.Machine.execUsbRead len es s
  | .usbWrite data hits => Sys2Proof.Machine.execUsbWrite data hits s
  | .usbDigest => Sys2Proof.Machine.execUsbDigest s
  | .dfuDetach => Sys2Proof.Machine.execDfuDetach s
  | .dfuDnload b => Sys2Proof.Machine.execDfuDnload b s
  | .dfuManifest => Sys2Proof.Machine.execDfuManifest s
  | .dfuClrstatus => Sys2Proof.Machine.execDfuClrstatus s
  | .usbBusReset hs => Sys2Proof.Machine.execUsbBusReset hs s
  | .usbSuspend => Sys2Proof.Machine.execUsbSuspend s
  | .usbResume => Sys2Proof.Machine.execUsbResume s
  | .usbLpmL1 remoteWake => Sys2Proof.Machine.execUsbLpmL1 remoteWake s
  | .usbRemoteWake => Sys2Proof.Machine.execUsbRemoteWake s
  | .remoteWakeDriveEnd => Sys2Proof.Machine.execRemoteWakeDriveEnd s
  | .hostKDetected => Sys2Proof.Machine.execHostKDetected s
  | .usbWakeReq src => Sys2Proof.Machine.execUsbWakeReq src s
  | .ringFrameOriginate => Sys2Proof.Machine.execRingFrameOriginate s
  | .ringFrameForward f codeErrs => Sys2Proof.Machine.execRingFrameForward f codeErrs s
  | .ringFrameReturn f loopSymbols codeErrs => Sys2Proof.Machine.execRingFrameReturn f loopSymbols codeErrs s
  | .ringAck => Sys2Proof.Machine.execRingAck s
  | .hello => Sys2Proof.Machine.execHello s
  | .assign => Sys2Proof.Machine.execAssign s
  | .leave => Sys2Proof.Machine.execLeave s
  | .eject => Sys2Proof.Machine.execEject s
  | .cmdData => Sys2Proof.Machine.execCmdData s
  | .cmdResp => Sys2Proof.Machine.execCmdResp s
  | .ringSetAddr => Sys2Proof.Machine.execRingSetAddr s
  | .ringRead e => Sys2Proof.Machine.execRingRead e s
  | .ringWrite hit => Sys2Proof.Machine.execRingWrite hit s
  | .ringResult => Sys2Proof.Machine.execRingResult s
  | .ringSend src a => Sys2Proof.Machine.execRingSend src a s
  | .ringSendTimeout => Sys2Proof.Machine.execRingSendTimeout s
  | .ringCall src => Sys2Proof.Machine.execRingCall src s
  | .ringCallDetect => Sys2Proof.Machine.execRingCallDetect s
  | .ringSymbolLock => Sys2Proof.Machine.execRingSymbolLock s
  | .ringCheckPassed => Sys2Proof.Machine.execRingCheckPassed s
  | .ringJoinWindow => Sys2Proof.Machine.execRingJoinWindow s
  | .ringJoinTimeout => Sys2Proof.Machine.execRingJoinTimeout s
  | .ringLeaveTimeout => Sys2Proof.Machine.execRingLeaveTimeout s
  | .ringLockLost => Sys2Proof.Machine.execRingLockLost s
  | .ringLockLostTimeout => Sys2Proof.Machine.execRingLockLostTimeout s
  | .ringMasterListen found => Sys2Proof.Machine.execRingMasterListen found s
  | .ringMasterTrained => Sys2Proof.Machine.execRingMasterTrained s
  | .ringNodeLost a => Sys2Proof.Machine.execRingNodeLost a s
  | .ringBroken => Sys2Proof.Machine.execRingBroken s
  | .ringBrokenTimeout => Sys2Proof.Machine.execRingBrokenTimeout s
  | .pgaStep x => Sys2Proof.Machine.execPgaStep x s
  | .pdmStartupMuteEnd k => Sys2Proof.Machine.execPdmStartupMuteEnd k s
  | .pdmStuck k => Sys2Proof.Machine.execPdmStuck k s
  | .pdmRecover k => Sys2Proof.Machine.execPdmRecover k s
  | .micBiasIlim n => Sys2Proof.Machine.execMicBiasIlim n s
  | .voiceBlock levelA levelB peakA peakB ps => Sys2Proof.Machine.execVoiceBlock levelA levelB peakA peakB ps s
  | .pttWake ps => Sys2Proof.Machine.execPttWake ps s
  | .pttUp => Sys2Proof.Machine.execPttUp s
  | .vaultRearm src => Sys2Proof.Machine.execVaultRearm src s
  | .vaultOpenLimit => Sys2Proof.Machine.execVaultOpenLimit s
  | .vaultExport src a => Sys2Proof.Machine.execVaultExport src a s
  | .vaultExportDone => Sys2Proof.Machine.execVaultExportDone s
  | .pipeAvgWindow k => Sys2Proof.Machine.execPipeAvgWindow k s
  | .pipeOvr k => Sys2Proof.Machine.execPipeOvr k s
  | .sarRefrdy n => Sys2Proof.Machine.execSarRefrdy n s
  | .sarScanStart n => Sys2Proof.Machine.execSarScanStart n s
  | .sarTrigger src n => Sys2Proof.Machine.execSarTrigger src n s
  | .sarUrgent src n inp => Sys2Proof.Machine.execSarUrgent src n inp s
  | .sarConversion n v vrefLow => Sys2Proof.Machine.execSarConversion n v vrefLow s
  | .sarSystemConversion code mic => Sys2Proof.Machine.execSarSystemConversion code mic s
  | .sarQueuePop n => Sys2Proof.Machine.execSarQueuePop n s
  | .jackInserted => Sys2Proof.Machine.execJackInserted s
  | .jackTypeDetect mv => Sys2Proof.Machine.execJackTypeDetect mv s
  | .jackRemovalConfirmed => Sys2Proof.Machine.execJackRemovalConfirmed s
  | .jackRemovalComplete => Sys2Proof.Machine.execJackRemovalComplete s
  | .jackButton => Sys2Proof.Machine.execJackButton s
  | .jackButtonStale => Sys2Proof.Machine.execJackButtonStale s
  | .hpStartComplete => Sys2Proof.Machine.execHpStartComplete s
  | .hpRailStep e => Sys2Proof.Machine.execHpRailStep e s
  | .hpIlim => Sys2Proof.Machine.execHpIlim s
  | .loutSc x acts => Sys2Proof.Machine.execLoutSc x acts s
  | .loutShutoff x => Sys2Proof.Machine.execLoutShutoff x s
  | .rdacSample x => Sys2Proof.Machine.execRdacSample x s
  | .rdacPush src x c => Sys2Proof.Machine.execRdacPush src x c s
  | .rdacDataStore x w => Sys2Proof.Machine.execRdacDataStore x w s
  | .tonePhaseEnd k => Sys2Proof.Machine.execTonePhaseEnd k s
  | .spkStart x => Sys2Proof.Machine.execSpkStart x s
  | .spkReleaseEdge x => Sys2Proof.Machine.execSpkReleaseEdge x s
  | .spkWindowEnd x => Sys2Proof.Machine.execSpkWindowEnd x s
  | .spkLimitHit x gap => Sys2Proof.Machine.execSpkLimitHit x gap s
  | .spkRetry x => Sys2Proof.Machine.execSpkRetry x s
  | .spkRetriesClear x => Sys2Proof.Machine.execSpkRetriesClear x s
  | .spkRestart src x => Sys2Proof.Machine.execSpkRestart src x s
  | .spkStopComplete x => Sys2Proof.Machine.execSpkStopComplete x s
  | .spkDcFault x => Sys2Proof.Machine.execSpkDcFault x s
  | .spkImpedanceReading x mag snr => Sys2Proof.Machine.execSpkImpedanceReading x mag snr s
  | .spkThermal t => Sys2Proof.Machine.execSpkThermal t s
  | .spkOtpRestart => Sys2Proof.Machine.execSpkOtpRestart s
  | .glintStartDone c => Sys2Proof.Machine.execGlintStartDone c s
  | .glintStopDone c => Sys2Proof.Machine.execGlintStopDone c s
  | .glintDuckEval c env => Sys2Proof.Machine.execGlintDuckEval c env s
  | .glintDuckHoldEnd c => Sys2Proof.Machine.execGlintDuckHoldEnd c s
  | .glintCoefLoad src c a => Sys2Proof.Machine.execGlintCoefLoad src c a s
  | .haloStart src => Sys2Proof.Machine.execHaloStart src s
  | .haloLoad src p a => Sys2Proof.Machine.execHaloLoad src p a s
  | .haloOpen sink => Sys2Proof.Machine.execHaloOpen sink s
  | .gpioSet src mask => Sys2Proof.Machine.execGpioSet src mask s
  | .gpioClr src mask => Sys2Proof.Machine.execGpioClr src mask s
  | .gpioEdge n high => Sys2Proof.Machine.execGpioEdge n high s
  | .btn n pressed => Sys2Proof.Machine.execBtn n pressed s
  | .refLocked => Sys2Proof.Machine.execRefLocked s
  | .pllRelocked => Sys2Proof.Machine.execPllRelocked s
  | .keepCharged => Sys2Proof.Machine.execKeepCharged s
  | .boostPgoodLost => Sys2Proof.Machine.execBoostPgoodLost s
  | .twcBusClearDone pulses freed => Sys2Proof.Machine.execTwcBusClearDone pulses freed s
  | .hpStopComplete => Sys2Proof.Machine.execHpStopComplete s
  | .micClip m => Sys2Proof.Machine.execMicClip m s
  | .glintClip c => Sys2Proof.Machine.execGlintClip c s
  | .haloRebaseFrameStart => Sys2Proof.Machine.execHaloRebaseFrameStart s
  | .usbSof cycles => Sys2Proof.Machine.execUsbSof cycles s
  | .usbIsoInPacket fb => Sys2Proof.Machine.execUsbIsoInPacket fb s
  | .setAddress a => Sys2Proof.Machine.execSetAddress a s
  | .setConfiguration n => Sys2Proof.Machine.execSetConfiguration n s
  | .deviceRemoteWakeupFeature on => Sys2Proof.Machine.execDeviceRemoteWakeupFeature on s

end Sys2Proof.Machine
end

