-- ==== Sys2Proof/Machine/Step.lean ====
section
/-! DEFINITION. One step: the command at the front of the queue; on an empty queue time passes (assumption log 5). -/

namespace Sys2Proof.Machine

/-- DESIGN CHOICE (assumption log 5): time passes with no command: the boot ROM goes from reading an image to checking it
(R103), wrapped resets end (R112), VSPK has discharged (R67), a master port that has stopped finishes its sample period
(R315), and a line output that ramps down is silent (R424). Nothing else moves without a command. -/
def elapse (s : State) : State :=
  spFinishAll { loutTick 7 s with
    rst.stage := if live s && s.rst.stage == .read then .check else s.rst.stage
    rst.resets := [], boost.discharging := false }

/-- Takes the command at the front of the queue and runs it with the queue's rest. -/
def step (s : State) : Host.Outcome State Fault Refusal :=
  match s.pending with
  | [] => .next (elapse s)
  | c :: rest => exec c { s with pending := rest }

/-- The state with the command that a table word spells at the front of its queue; no word spells one. -/
def State.withFetchWord (s : State) (nbits w : Nat) : State :=
  match decodeTableWord nbits w with
  | some c => { s with pending := c :: s.pending }
  | none => s

end Sys2Proof.Machine
end

