-- ==== Sys2Proof/Safety.lean ====
section
/-! DEFINITION. What counts as a safe run of the block, and when a Slaso instruction issues, in the terms the statements
use. -/

namespace Sys2Proof.Machine

/-! ### Runs -/

/-- The canonical form of a memory: addresses strictly rising, no entry equal to the 0 that an unlisted address reads
as. -/
def Memory.wf (m : List Host.Cell) : Bool := smWf (fun _ => 0) m

/-- The memory of a state has its canonical form. -/
def State.memWf (s : State) : Bool := Memory.wf s.mem.cells

/-- `t` is a state that `n` steps reach from `s`. -/
def Reaches (s : State) : Nat → State → Prop
  | 0, t => t = s
  | n + 1, t => ∃ u, Reaches s n u ∧ step u = .next t

/-- Every byte of memory reads in `t` as it does in `s`. -/
def SameMemory (s t : State) : Prop := ∀ a, byteAt a t = byteAt a s

/-- Every byte of memory outside `[lo, lo + len)` reads in `t` as it does in `s`. -/
def SameMemoryBut (lo len : Nat) (s t : State) : Prop := ∀ a, a < lo ∨ lo + len ≤ a → byteAt a t = byteAt a s

/-- VOID is written and nothing under way could write another code (R119): no transition, no erase to complete, no
signature check, no block, and no image that the boot ROM could run. -/
def VoidFinal (s : State) : Prop :=
  s.lcy.code = .void ∧ s.lcy.eraseMarker = none ∧ s.lcy.quiet = none ∧ s.dbg.auth = none ∧ s.cmd.jobs = []
    ∧ s.usb.dfuMode ≠ .bootRom
    ∧ (s.rst.phase = .fused → s.lcy.shadow = .void)
    ∧ (s.rst.phase = .running → s.lcy.shadow = .void ∧ s.rst.stage = .void)

/-! ### The issue of a Slaso instruction (R196, R197, R213) -/

/-- An instruction of `cyc` cycles of the agent issues: a context is RUNNING at the head of its served lane, its word lies
in its code region in a quarter that is ON, and the cycles fit, with the 12 switch cycles where its turn begins (R197);
the steward runs, and its word lies in its bank. -/
def Issues (who : Agent) (cyc : Nat) (s : State) : Prop :=
  match who with
  | .ctx n =>
    ctxReady n s = true ∧ (ctxAt n s).regs.pc < (ctxAt n s).words
      ∧ addrOn ((ctxAt n s).code + 4 * (ctxAt n s).regs.pc) s = true
      ∧ fits n ((if s.lane.turn.getLsbD (laneOf n) then 0 else 12) + cyc) s = true
  | .steward => stwReady s = true ∧ s.stw.regs.pc < stwWords

/-- The state in which an issued instruction acts: its cycles are charged to the context and its lane, after the switch
cycles of a turn that begins; the steward has no budget (R213). -/
def charged (who : Agent) (cyc : Nat) (s : State) : State :=
  match who with
  | .ctx n => charge n cyc (if s.lane.turn.getLsbD (laneOf n) then s else openTurn n s)
  | .steward => useStep s

/-- Replaces the registers of an agent. -/
def putRegs (who : Agent) (r : RegSet) (s : State) : State :=
  match who with
  | .ctx n => setCtx n { ctxAt n s with regs := r } s
  | .steward => { s with stw.regs := r }

/-- Command `i` completes as an instruction of the agent that only changes registers: next comes the state with its
cycles charged and registers `r`, the program counter moved on (R228), and nothing else changed. -/
def Gives (i : Instr) (who : Agent) (cyc : Nat) (s : State) (r : RegSet) : Prop :=
  exec i s = .next (putRegs who (r.advance .fall) (charged who cyc s))

/-! ### Results as integers (R189) -/

/-- An integer clamped to the range of a 32-bit two's complement word. -/
def clampQ (x : Int) : Int := max (-(2 ^ 31)) (min (2 ^ 31 - 1) x)

/-- An integer clamped to the range of a 72-bit accumulator. -/
def clampA (x : Int) : Int := max (-(2 ^ 71)) (min (2 ^ 71 - 1) x)

/-- The registers with the clamped integer in a value register; CSW.SAT sets where the clamp changes it. -/
def satTo (vd : Fin 32) (x : Int) (r : RegSet) : RegSet :=
  { r with v := r.v.set vd (BitVec.ofInt 32 (clampQ x)), sat := r.sat || decide (clampQ x ≠ x) }

/-- The registers with the clamped integer in an accumulator; CSW.SAT sets where the clamp changes it. -/
def satToA (k : Fin 4) (x : Int) (r : RegSet) : RegSet :=
  { r with a := r.a.set k (BitVec.ofInt 72 (clampA x)), sat := r.sat || decide (clampA x ≠ x) }

/-- The registers with a word in a value register. -/
def put (vd : Fin 32) (w : Word) (r : RegSet) : RegSet := { r with v := r.v.set vd w }

/-- The registers with a predicate set to a value. -/
def putQ (qd : Fin 4) (b : Bool) (r : RegSet) : RegSet := { r with q := setBit r.q qd b }

/-- The integer nearest to `x / 2^k`, halves upward. -/
def roundShift (k : Nat) (x : Int) : Int := (2 * x + 2 ^ k) / 2 ^ (k + 1)

/-- The agent that runs a Slaso instruction of the lane profile or of both profiles, and the cycles it takes (R213, R233,
R236, Tables 10.3 to 10.11 and 11.4); none for every other command. -/
def slasoOf (i : Instr) (s : State) : Option (Agent × Nat) :=
  match i with
  | .nop who => some (who, 1)
  | .add who _ _ _ => some (who, 1)
  | .sub who _ _ _ => some (who, 1)
  | .addw who _ _ _ => some (who, 1)
  | .subw who _ _ _ => some (who, 1)
  | .neg who _ _ => some (who, 1)
  | .abs who _ _ => some (who, 1)
  | .min who _ _ _ => some (who, 1)
  | .max who _ _ _ => some (who, 1)
  | .mul who _ _ _ => some (who, 1)
  | .muli who _ _ _ => some (who, 1)
  | .and who _ _ _ => some (who, 1)
  | .or who _ _ _ => some (who, 1)
  | .xor who _ _ _ => some (who, 1)
  | .not who _ _ => some (who, 1)
  | .shl who _ _ _ => some (who, 1)
  | .shr who _ _ _ => some (who, 1)
  | .sar who _ _ _ => some (who, 1)
  | .shls who _ _ _ => some (who, 1)
  | .ash who _ _ _ => some (who, 1)
  | .clip who _ _ _ => some (who, 1)
  | .qnt who _ _ _ => some (who, 1)
  | .norm who _ _ => some (who, 1)
  | .satclr who => some (who, 1)
  | .satget who _ => some (who, 1)
  | .fadd who _ _ _ => some (who, 1)
  | .fsub who _ _ _ => some (who, 1)
  | .fmul who _ _ _ => some (who, 1)
  | .fmac who _ _ _ => some (who, 1)
  | .fdiv who _ _ _ => some (who, 8)
  | .fsqrt who _ _ => some (who, 8)
  | .fmin who _ _ _ => some (who, 1)
  | .fmax who _ _ _ => some (who, 1)
  | .fabs who _ _ => some (who, 1)
  | .fneg who _ _ => some (who, 1)
  | .ftoq who _ _ _ => some (who, 1)
  | .qtof who _ _ _ => some (who, 1)
  | .ftoi who _ _ => some (who, 1)
  | .itof who _ _ => some (who, 1)
  | .cmp who _ _ _ _ _ _ _ => some (who, 1)
  | .qset who _ _ => some (who, 1)
  | .qand who _ _ _ => some (who, 1)
  | .qor who _ _ _ => some (who, 1)
  | .qxor who _ _ _ => some (who, 1)
  | .qandn who _ _ _ => some (who, 1)
  | .qnot who _ _ => some (who, 1)
  | .qtov who _ _ => some (who, 1)
  | .vtoq who _ _ => some (who, 1)
  | .mov who _ _ => some (who, 1)
  | .sel who _ _ _ _ => some (who, 1)
  | .pget who _ _ => some (who, 1)
  | .pgets who _ _ => some (who, 1)
  | .lcget who _ _ => some (who, 1)
  | .pack who _ _ _ => some (who, 1)
  | .addi who _ _ _ => some (who, 1)
  | .movi who _ _ => some (who, 1)
  | .movhi who _ _ => some (who, 1)
  | .mac who _ _ _ _ _ _ _ _ _ => some (who, 1)
  | .macp who _ _ _ _ _ _ => some (who, 1)
  | .rnd who _ _ => some (who, 1)
  | .rndsh who _ _ _ => some (who, 1)
  | .aclr who _ => some (who, 1)
  | .ald who _ _ => some (who, 1)
  | .aadd who _ _ => some (who, 1)
  | .amov who _ _ => some (who, 1)
  | .bq who _ _ _ _ _ _ => some (who, 3)
  | .bfly who _ _ _ _ => some (who, 2)
  | .ld who _ _ _ _ _ => some (who, 1)
  | .st who _ _ _ _ _ _ => some (who, 1)
  | .pseta who _ _ _ => some (who, 1)
  | .psets who _ _ _ => some (who, 1)
  | .psetl who _ _ => some (who, 1)
  | .pstep who _ _ => some (who, 1)
  | .loop who _ _ _ => some (who, 1)
  | .lbrk who => some (who, 1)
  | .srd who _ _ _ => some (who, blockCycles s)
  | .swr who _ _ _ _ => some (who, blockCycles s)
  | .sget who _ _ _ _ => some (who, 1)
  | .sput who _ _ _ _ => some (who, 1)
  | .bsend who _ _ => some (who, 1)
  | .evt who => some (who, 1)
  | .waitf who => some (who, 1)
  | .yield who => some (who, 1)
  | .br who _ => some (who, 2)
  | .brt who q _ => some (who, if (agentRegs who s).qr q then 2 else 1)
  | .brf who q _ => some (who, if (agentRegs who s).qr q then 1 else 2)
  | .call who _ => some (who, 2)
  | .jmpr who _ => some (who, 2)
  | _ => none

/-- The agent stops with a fault code (R200, R202). -/
def faulted (who : Agent) (code : Nat) (s : State) : State :=
  match who with | .ctx n => ctxFault n code s | .steward => stwHalt code s

/-! ### Accesses that succeed (R192, R193, R225, R237) -/

/-- The agent may load the bytes `[a, a + len)`: aligned, in its data window or code region, in quarters that are ON; the
steward here in its own bank, where no copy of a LOAD runs. -/
def LoadsFrom (who : Agent) (a len align : Nat) (s : State) : Prop :=
  a % align = 0 ∧ (∀ x, a / 4 * 4 ≤ x → x < a + len → addrOn x s = true) ∧
  match who with
  | .ctx n =>
    let c := ctxAt n s
    (c.dbase ≤ a ∧ a + len ≤ c.dbase + c.dlen) ∨ (c.code ≤ a ∧ a + len ≤ c.code + 4 * c.words)
  | .steward => 0x800000 ≤ a ∧ a + len ≤ 0x880000 ∧ ∀ x, a / 4 * 4 ≤ x → x < a + len → copying x s = false

/-- The agent may store the bytes `[a, a + len)`: aligned, in its data window, in no verified code region, in quarters
that are ON; the steward here in its own bank, where no copy of a LOAD runs. -/
def StoresTo (who : Agent) (a len align : Nat) (s : State) : Prop :=
  a % align = 0 ∧ (∀ x, a / 4 * 4 ≤ x → x < a + len → addrOn x s = true) ∧
  (∀ r ∈ s.lane.regions, a + len ≤ r.base ∨ r.base + 4 * r.words ≤ a) ∧
  match who with
  | .ctx n => let c := ctxAt n s; c.dbase ≤ a ∧ a + len ≤ c.dbase + c.dlen
  | .steward => 0x800000 ≤ a ∧ a + len ≤ 0x880000
      ∧ ∀ x, a / 4 * 4 ≤ x → x < a + len → copying x s = false ∧ verified x s = false

/-- The registers with pointer `k` stepped by the post-modify (R191). -/
def stepped (k : Fin 8) (d : Int) (r : RegSet) : RegSet := { r with p := r.p.set k (r.p[k].stepBy d) }

/-- Command `i` completes as a storing instruction of the agent with registers `r` (the program counter still to move on):
next comes a state in which the words `ws` stand from `a` on, every other byte of memory reads as before, and nothing else
than memory and the agent's registers and cycles has changed. -/
def Stores (i : Instr) (who : Agent) (cyc : Nat) (s : State) (a : Nat) (ws : List Word) (r : RegSet) : Prop :=
  ∃ t, exec i s = .next t
    ∧ t = putRegs who (r.advance .fall)
        { charged who cyc s with mem := { s.mem with cells := t.mem.cells, known := t.mem.known } }
    ∧ (∀ k (h : k < ws.length), wordAt (a + 4 * k) t = ws[k])
    ∧ SameMemoryBut a (4 * ws.length) s t

/-! ### Steward-only words as commands (R168 to R175, R238) -/

/-- The steward takes a word of the source in now: it serves mailboxes, the source's is free and its turn has come (R171);
or its own program runs. -/
def Accepts (src : Source) (s : State) : Prop :=
  if src = .steward then stwReady s = true else serves s = true ∧ sourceReady src s = true ∧ turnOf src s = true

/-- The state in which a word that is taken in is validated: the mailbox reads busy and is the last in the rotation; or the
steward's program counter is past the word and its `lits` literals; a debug step is used up, and which wrapped resets still
last is settled (R112). -/
def takenIn (src : Source) (lits : Nat) (s : State) : State :=
  settleResets (match src with
    | .steward => { s with dbg.step := false, stw.regs := s.stw.regs.past lits }
    | .host => { s with dbg.step := false, win.mbx := { busy := true }, cmd.last := .host }
    | .usb => { s with dbg.step := false, cmd.usbMbx := { busy := true }, cmd.last := .usb }
    | .ring => { s with dbg.step := false, cmd.ringMbx := { busy := true }, cmd.last := .ring })

/-- The state in which word `o` is validated, with what reading its source in memory finds (R274). -/
def heard (src : Source) (o : StwOp) (lits : Nat) (s : State) : State := noteWord o (takenIn src lits s)

/-- The word of a named field: CFG of a value below 256, else CFGL with its literal. -/
def fieldWordOf (src : Source) (blk fid v : Nat) : Option (Source × StwOp × Nat) :=
  some (src, .cfg blk fid v, if v < 256 then 0 else 1)

/-- The steward-only word that a command is, with its source and how many literal words follow it (R239 to R250); none for
every other command. -/
def wordOf (i : Instr) (s : State) : Option (Source × StwOp × Nat) :=
  match i with
  | .cfg src b f v => some (src, .cfg b.toNat f.toNat v.toNat, 0)
  | .cfgl src b f v none => some (src, .cfg b.toNat f.toNat v.toNat, 1)
  | .cfgl .steward b f _ (some r) => some (.steward, .cfg b.toNat f.toNat (s.stw.regs.vr r).toNat, 0)
  | .claim src b u => some (src, .claim b.toNat u.toNat, 0)
  | .release src b u => some (src, .release b.toNat u.toNat, 0)
  | .load src dst a => some (src, .load (4 * dst.toNat) a.toNat, 1)
  | .cstart src n a => some (src, .cstart n a.toNat, 1)
  | .cstop src n => some (src, .cstop n false, 0)
  | .cstopRelease src n => some (src, .cstop n true, 0)
  | .routeWriter src k e n => some (src, .route .writer k.toNat e.toNat n, 0)
  | .routeReader src k e n => some (src, .route .reader k.toNat e.toNat n, 0)
  | .routeUnread src k e n => some (src, .route .unread k.toNat e.toNat n, 0)
  | .routeFree src n => some (src, .route .free 0 0 n, 0)
  | .bankpwr src u m st => some (src, .bankpwr u.toNat m.toNat st, 0)
  | .breset src b u => if b = 0x03 then none else some (src, .breset b.toNat u.toNat, 0)
  | .bresetRst src u => some (src, .breset 0x03 u.toNat, 0)
  | .lcyreqSeal src => some (src, .seal, 0)
  | .lcyreqWriteToken src x => some (src, .writeToken x, 2)
  | .lcyreqFuseWrite src k v => some (src, .fuseWrite k.toNat v, 1)
  | .lcyreqVoid src c => some (src, .voidReq c, 1)
  | .calrunSarCal src f u => some (src, .calrun 1 f u.toNat, 0)
  | .calrunPipeAvg src f u => some (src, .calrun 2 f u.toNat, 0)
  | .calrunAadcOffset src f u => some (src, .calrun 3 f u.toNat, 0)
  | .calrunAadcSelftest src f u => some (src, .calrun 4 f u.toNat, 0)
  | .calrunMicArray src f u => some (src, .calrun 5 f u.toNat, 0)
  | .twcStart src => fieldWordOf src 0x06 0x009 1
  | .twcClear src => fieldWordOf src 0x06 0x00A 1
  | .wdogKick src v => fieldWordOf src 0x03 0x002 v.toNat
  | .laneFaultInject src v => fieldWordOf src 0x08 0x002 v.toNat
  | .usbWakeReq src => fieldWordOf src 0x14 0x014 1
  | .ringSend src a => fieldWordOf src 0x15 0x005 a.toNat
  | .ringCall src => fieldWordOf src 0x15 0x004 1
  | .vaultRearm src => fieldWordOf src 0x1A 0x001 1
  | .vaultExport src a => fieldWordOf src 0x1A 0x003 a.toNat
  | .sarTrigger src n => fieldWordOf src (0x22 + n.val) 0x006 1
  | .sarUrgent src n v => fieldWordOf src (0x22 + n.val) 0x007 v.toNat
  | .rdacPush src x c => fieldWordOf src 0x28 (0x014 + x.val) c.toNat
  | .spkRestart src x => fieldWordOf src 0x30 (0x018 + x.val) 1
  | .glintCoefLoad src c a => fieldWordOf src 0x32 (0x014 + c.val) a.toNat
  | .haloStart src => fieldWordOf src 0x38 0x007 1
  | .haloLoad src p a => fieldWordOf src 0x38 (0x010 + p.val) a.toNat
  | .gpioSet src m => fieldWordOf src 0x39 0x041 m.toNat
  | .gpioClr src m => fieldWordOf src 0x39 0x042 m.toNat
  | _ => none

/-- Command `i` completes as a steward-only word of the source without a perform phase: next comes the state in which the
word has been taken in, with its effect and the response DONE, and nothing else changed but that faults injected before fall
in an earlier core cycle (R262). -/
def Commits (i : Instr) (src : Source) (lits : Nat) (s : State) (effect : State → State) : Prop :=
  exec i s = .next (respond src 0 0 (0, 0) { effect (takenIn src lits s) with lane.injecting := false })

/-- Every check of Table 08.4 passes for a word of the source that is a block of its own. -/
def Passes (src : Source) (o : StwOp) (lits : Nat) (s : State) : Prop :=
  Accepts src s ∧ wordErr src o true (heard src o lits s) = none

end Sys2Proof.Machine
end

