-- ==== Sys2Proof/Certificates/Slice0/Obligations.lean ====
section
/-! DEFINITION. The statements for the provers. -/

open Sys2Proof Sys2Proof.Machine

/-! ### Slaso: instructions that only change registers -/

/-- R214, Table 10.3 (NORM is in `LeadingSignRun`): for every agent whose instruction issues, each QALU function completes
in one cycle with the result of its row in exact integers, CSW.SAT as its row says, and nothing else changed; only a QNT
to 0 bits is no instruction. -/
def Statements.QaluFunctions : Prop :=
  ∀ (who : Agent) (vd vs vt k : Fin 32) (s : State), Issues who 1 s →
    let r := agentRegs who s
    let x := r.vr vs
    let y := r.vr vt
    let j : Int := if y.toNat % 64 < 32 then y.toNat % 64 else y.toNat % 64 - 64
    let m : Int := min y.toInt.natAbs (2 ^ 31 - 1)
    let h : Int := clampQ (x.toInt + 2 ^ (31 - k.val))
    Gives (.nop who) who 1 s r
    ∧ Gives (.add who vd vs vt) who 1 s (satTo vd (x.toInt + y.toInt) r)
    ∧ Gives (.sub who vd vs vt) who 1 s (satTo vd (x.toInt - y.toInt) r)
    ∧ Gives (.addw who vd vs vt) who 1 s (put vd (BitVec.ofNat 32 (x.toNat + y.toNat)) r)
    ∧ Gives (.subw who vd vs vt) who 1 s (put vd (BitVec.ofInt 32 (x.toInt - y.toInt)) r)
    ∧ Gives (.neg who vd vs) who 1 s (satTo vd (-x.toInt) r)
    ∧ Gives (.abs who vd vs) who 1 s (satTo vd (max x.toInt (-x.toInt)) r)
    ∧ Gives (.min who vd vs vt) who 1 s (put vd (BitVec.ofInt 32 (min x.toInt y.toInt)) r)
    ∧ Gives (.max who vd vs vt) who 1 s (put vd (BitVec.ofInt 32 (max x.toInt y.toInt)) r)
    ∧ Gives (.mul who vd vs vt) who 1 s (satTo vd (roundShift 31 (x.toInt * y.toInt)) r)
    ∧ Gives (.muli who vd vs vt) who 1 s (put vd (BitVec.ofNat 32 (x.toNat * y.toNat)) r)
    ∧ Gives (.and who vd vs vt) who 1 s (put vd (x &&& y) r)
    ∧ Gives (.or who vd vs vt) who 1 s (put vd (x ||| y) r)
    ∧ Gives (.xor who vd vs vt) who 1 s (put vd (x ^^^ y) r)
    ∧ Gives (.not who vd vs) who 1 s (put vd (~~~x) r)
    ∧ Gives (.shl who vd vs k) who 1 s (put vd (BitVec.ofNat 32 (x.toNat * 2 ^ k.val)) r)
    ∧ Gives (.shr who vd vs k) who 1 s (put vd (BitVec.ofNat 32 (x.toNat / 2 ^ k.val)) r)
    ∧ Gives (.sar who vd vs k) who 1 s (put vd (BitVec.ofInt 32 (x.toInt / 2 ^ k.val)) r)
    ∧ Gives (.shls who vd vs k) who 1 s (satTo vd (x.toInt * 2 ^ k.val) r)
    ∧ Gives (.ash who vd vs vt) who 1 s
        (if 0 ≤ j then satTo vd (x.toInt * 2 ^ j.toNat) r else put vd (BitVec.ofInt 32 (x.toInt / 2 ^ (-j).toNat)) r)
    ∧ Gives (.clip who vd vs vt) who 1 s (put vd (BitVec.ofInt 32 (max (-m) (min m x.toInt))) r)
    ∧ (k ≠ 0 → Gives (.qnt who vd vs k) who 1 s
        { put vd (BitVec.ofInt 32 (h / 2 ^ (32 - k.val) * 2 ^ (32 - k.val))) r with
          sat := r.sat || decide (h ≠ x.toInt + 2 ^ (31 - k.val)) })
    ∧ Gives (.satclr who) who 1 s { r with sat := false }
    ∧ Gives (.satget who vd) who 1 s (put vd (if r.sat then 1 else 0) r)

/-- R214: NORM completes in one cycle with the length of the run of bits directly below bit 31 that equal bit 31. That
the bits counted are a run is the model's reading (assumption log 39). -/
def Statements.LeadingSignRun : Prop :=
  ∀ (who : Agent) (vd vs : Fin 32) (s : State), Issues who 1 s →
    let r := agentRegs who s
    let x := r.vr vs
    ∃ n, n ≤ 31 ∧ (∀ i, 31 - n ≤ i → i < 31 → x.getLsbD i = x.getLsbD 31)
      ∧ (n < 31 → x.getLsbD (30 - n) ≠ x.getLsbD 31)
      ∧ Gives (.norm who vd vs) who 1 s (put vd (BitVec.ofNat 32 n) r)

/-- R216, Table 10.5: each move, select, pointer or counter read, pack and immediate load completes in one cycle with its
result, touches no flag, and changes nothing else. -/
def Statements.MovesAndImmediates : Prop :=
  ∀ (who : Agent) (vd vs vt : Fin 32) (q : Fin 4) (p : Fin 8) (k : Fin 2) (imm : BitVec 16) (s : State), Issues who 1 s →
    let r := agentRegs who s
    let x := r.vr vs
    let y := r.vr vt
    let d := r.vr vd
    let c := if k = 0 then r.lc0 else r.lc1
    Gives (.mov who vd vs) who 1 s (put vd x r)
    ∧ Gives (.sel who vd vs vt q) who 1 s (put vd (if r.q.getLsbD q then x else y) r)
    ∧ Gives (.pget who vd p) who 1 s (put vd r.p[p].addr r)
    ∧ Gives (.pgets who vd p) who 1 s (put vd r.p[p].start r)
    ∧ Gives (.lcget who vd k) who 1 s (put vd (if k.val < r.depth then BitVec.ofNat 32 c.n.toNat else 0) r)
    ∧ Gives (.pack who vd vs vt) who 1 s (put vd (BitVec.ofNat 32 (x.toNat / 2 ^ 16 * 2 ^ 16 + y.toNat / 2 ^ 16)) r)
    ∧ Gives (.addi who vd vs imm) who 1 s (put vd (BitVec.ofInt 32 (x.toInt + imm.toInt)) r)
    ∧ Gives (.movi who vd imm) who 1 s (put vd (BitVec.ofInt 32 imm.toInt) r)
    ∧ Gives (.movhi who vd imm) who 1 s (put vd (BitVec.ofNat 32 (imm.toNat * 2 ^ 16 + d.toNat % 2 ^ 16)) r)

/-- R217: MAC completes in one cycle for every MODE, with vu, vw and NEG2 0 where SINGLE is 1: two exact products, one
saturation to Q10.62, and nothing else changed. -/
def Obligations.MultiplyAccumulate : Prop :=
  ∀ (who : Agent) (ad : Fin 4) (vs vt vu vw : Fin 32) (clr neg1 neg2 : Bool) (s : State), Issues who 1 s →
    let r := agentRegs who s
    let p1 := (r.vr vs).toInt * (r.vr vt).toInt
    let p2 := (r.vr vu).toInt * (r.vr vw).toInt
    let base := if clr then 0 else r.a[ad].toInt
    let q1 := if neg1 then -p1 else p1
    Gives (.mac who ad vs vt vu vw clr neg1 neg2 false) who 1 s
      (satToA ad (base + q1 + (if neg2 then -p2 else p2)) r)
    ∧ Gives (.mac who ad vs vt 0 0 clr neg1 false true) who 1 s (satToA ad (base + q1) r)

/-- R219, Table 10.6: each ACC function completes in one cycle; rounding to a value register is to the nearest multiple of
2^−31, halves upward, then saturated; nothing else changes. -/
def Obligations.AccumulatorMoves : Prop :=
  ∀ (who : Agent) (vd vs : Fin 32) (k j : Fin 4) (sh : Fin 16) (s : State), Issues who 1 s →
    let r := agentRegs who s
    let acc := r.a[k].toInt
    let x := (r.vr vs).toInt
    Gives (.rnd who vd k) who 1 s (satTo vd (roundShift 31 acc) r)
    ∧ Gives (.rndsh who vd k sh) who 1 s (satTo vd (roundShift 31 (acc * 2 ^ sh.val)) r)
    ∧ Gives (.aclr who k) who 1 s { r with a := r.a.set k 0 }
    ∧ Gives (.ald who k vs) who 1 s { r with a := r.a.set k (BitVec.ofInt 72 (x * 2 ^ 31)) }
    ∧ Gives (.aadd who k vs) who 1 s (satToA k (acc + x * 2 ^ 31) r)
    ∧ Gives (.amov who k j) who 1 s { r with a := r.a.set k r.a[j] }

/-- R221: BFLY completes in two cycles for every pair of distinct even result registers and every even twiddle register:
the four results of exact complex arithmetic, each rounded and saturated, all computed from the operands before any is
written; nothing else changes. -/
def Obligations.ComplexButterfly : Prop :=
  ∀ (who : Agent) (vd vs vt vd1 vs1 vt1 : Fin 32) (sh : Bool) (s : State), Issues who 2 s →
    vd.val % 2 = 0 → vs.val % 2 = 0 → vt.val % 2 = 0 → vd ≠ vs →
    vd1.val = vd.val + 1 → vs1.val = vs.val + 1 → vt1.val = vt.val + 1 →
    let r := agentRegs who s
    let xr := (r.vr vd).toInt * 2 ^ 31
    let xi := (r.vr vd1).toInt * 2 ^ 31
    let tr := (r.vr vt).toInt * (r.vr vs).toInt - (r.vr vt1).toInt * (r.vr vs1).toInt
    let ti := (r.vr vt).toInt * (r.vr vs1).toInt + (r.vr vt1).toInt * (r.vr vs).toInt
    let g := fun z : Int => roundShift (if sh then 32 else 31) z
    Gives (.bfly who vd vs vt sh) who 2 s
      (satTo vs1 (g (xi - ti)) (satTo vs (g (xr - tr)) (satTo vd1 (g (xi + ti)) (satTo vd (g (xr + tr)) r))))

/-- R222, Table 10.7: CMP completes in one cycle and writes qd from the listed condition, on two's complement words or
binary32 values, combined as COMB says; with Z = 1 the second operand is 0 and vt names v0; nothing else changes. -/
def Obligations.CompareIntoPredicate : Prop :=
  ∀ (who : Agent) (qd : Fin 4) (vs vt : Fin 32) (z : Bool) (s : State), Issues who 1 s → (z = true → vt = 0) →
    let r := agentRegs who s
    let a := r.vr vs
    let b := if z then 0 else r.vr vt
    let old := r.q.getLsbD qd
    let puts := fun (cc : BitVec 4) (f : Bool) (c : Bool) =>
      Gives (.cmp who qd vs vt cc f z 0) who 1 s (putQ qd c r)
      ∧ Gives (.cmp who qd vs vt cc f z 1) who 1 s (putQ qd (old && c) r)
      ∧ Gives (.cmp who qd vs vt cc f z 2) who 1 s (putQ qd (old || c) r)
    let x := fpOf a
    let y := fpOf b
    puts 0 false (decide (a = b)) ∧ puts 1 false (decide (a ≠ b))
    ∧ puts 2 false (decide (a.toInt < b.toInt)) ∧ puts 3 false (decide (a.toInt ≤ b.toInt))
    ∧ puts 4 false (decide (b.toInt < a.toInt)) ∧ puts 5 false (decide (b.toInt ≤ a.toInt))
    ∧ puts 6 false (decide (a.toNat < b.toNat)) ∧ puts 7 false (decide (b.toNat ≤ a.toNat))
    ∧ puts 0 true (fpEq x y) ∧ puts 1 true (!fpEq x y)
    ∧ puts 2 true (fpLt x y) ∧ puts 3 true (fpLt x y || fpEq x y)
    ∧ puts 4 true (fpLt y x) ∧ puts 5 true (fpLt y x || fpEq x y)
    ∧ puts 8 true (x == .nan || y == .nan)

/-- R223, Table 10.8: each predicate operation completes in one cycle and changes only its result. -/
def Statements.PredicateLogic : Prop :=
  ∀ (who : Agent) (qd qs qt : Fin 4) (v : Fin 32) (imm : Bool) (s : State), Issues who 1 s →
    let r := agentRegs who s
    let a := r.q.getLsbD qs
    let b := r.q.getLsbD qt
    Gives (.qset who qd imm) who 1 s (putQ qd imm r)
    ∧ Gives (.qand who qd qs qt) who 1 s (putQ qd (a && b) r)
    ∧ Gives (.qor who qd qs qt) who 1 s (putQ qd (a || b) r)
    ∧ Gives (.qxor who qd qs qt) who 1 s (putQ qd (xor a b) r)
    ∧ Gives (.qandn who qd qs qt) who 1 s (putQ qd (a && !b) r)
    ∧ Gives (.qnot who qd qs) who 1 s (putQ qd (!a) r)
    ∧ Gives (.qtov who v qs) who 1 s (put v (if a then 1 else 0) r)
    ∧ Gives (.vtoq who qd v) who 1 s (putQ qd (decide (r.vr v ≠ 0)) r)

/-- R226, R191: each pointer operation completes in one cycle; neither PSETS nor PSETL moves ADDR; PSTEP steps ADDR by a
signed step, modulo LEN from START where LEN is not 0; nothing else changes. -/
def Statements.PointerSetUp : Prop :=
  ∀ (who : Agent) (pk : Fin 8) (vs : Fin 32) (imm : BitVec 16) (s : State), Issues who 1 s →
    let r := agentRegs who s
    let p := r.p[pk]
    let sum := (r.vr vs).toInt + imm.toInt
    let putP := fun (x : Ptr) => ({ r with p := r.p.set pk x } : RegSet)
    Gives (.pseta who pk vs imm) who 1 s (putP { p with addr := BitVec.ofInt 32 sum })
    ∧ Gives (.psets who pk vs imm) who 1 s (putP { p with start := BitVec.ofInt 32 (sum / 4 * 4) })
    ∧ (imm.toNat % 4 = 0 → Gives (.psetl who pk imm) who 1 s (putP { p with len := imm }))
    ∧ (p.len = 0 → Gives (.pstep who pk imm) who 1 s (putP { p with addr := BitVec.ofInt 32 (p.addr.toInt + imm.toInt) }))
    ∧ (p.len ≠ 0 → ∃ o : Nat, o < p.len.toNat
        ∧ ((p.addr.toNat : Int) - p.start.toNat + imm.toInt - o) % p.len.toNat = 0
        ∧ Gives (.pstep who pk imm) who 1 s (putP { p with addr := p.start + BitVec.ofNat 32 o }))

/-- R190, R215, Table 10.4: each FALU function completes in one cycle, FDIV and FSQRT in eight, with its binary32 result
in vd and nothing else changed; FTOQ and FTOI set CSW.SAT where they clamp or meet a NaN. What the operations compute is
in `BinaryResultsAreCanonical`, `BinarySpecialCases` and `ConversionsToIntegers`. -/
def Obligations.BinaryInstructionsComplete : Prop :=
  ∀ (who : Agent) (vd vs vt k : Fin 32) (s : State), Issues who 1 s →
    let r := agentRegs who s
    let x := r.vr vs
    let y := r.vr vt
    let withFlag := fun (w : Word × Bool) => ({ put vd w.1 r with sat := r.sat || w.2 } : RegSet)
    Gives (.fadd who vd vs vt) who 1 s (put vd (fpAdd x y) r)
    ∧ Gives (.fsub who vd vs vt) who 1 s (put vd (fpSub x y) r)
    ∧ Gives (.fmul who vd vs vt) who 1 s (put vd (fpMul x y) r)
    ∧ Gives (.fmac who vd vs vt) who 1 s (put vd (fpMac (r.vr vd) x y) r)
    ∧ (Issues who 8 s → Gives (.fdiv who vd vs vt) who 8 s (put vd (fpDiv x y) r))
    ∧ (Issues who 8 s → Gives (.fsqrt who vd vs) who 8 s (put vd (fpSqrt x) r))
    ∧ Gives (.fmin who vd vs vt) who 1 s (put vd (fpPick false x y) r)
    ∧ Gives (.fmax who vd vs vt) who 1 s (put vd (fpPick true x y) r)
    ∧ Gives (.fabs who vd vs) who 1 s (put vd (BitVec.ofNat 32 (x.toNat % 2 ^ 31)) r)
    ∧ Gives (.fneg who vd vs) who 1 s (put vd (BitVec.ofNat 32 (x.toNat + 2 ^ 31)) r)
    ∧ Gives (.ftoq who vd vs k) who 1 s (withFlag (fpToInt (fpOf x) (31 - (k.val : Int))))
    ∧ Gives (.qtof who vd vs k) who 1 s (put vd (fpOfInt x.toInt ((k.val : Int) - 31) false) r)
    ∧ Gives (.ftoi who vd vs) who 1 s (withFlag (fpToInt (fpOf x) 0))
    ∧ Gives (.itof who vd vs) who 1 s (put vd (fpOfInt x.toInt 0 false) r)

/-- R190: every result of the binary32 arithmetic that is a NaN is 0x7FC0_0000, and no result is subnormal. -/
def Statements.BinaryResultsAreCanonical : Prop :=
  let canonical := fun w : Word =>
    (w.toNat / 2 ^ 23 % 256 = 255 → w.toNat % 2 ^ 23 ≠ 0 → w = 0x7FC00000)
      ∧ (w.toNat / 2 ^ 23 % 256 = 0 → w.toNat % 2 ^ 23 = 0)
  (∀ a b : Word, canonical (fpAdd a b) ∧ canonical (fpSub a b) ∧ canonical (fpMul a b) ∧ canonical (fpDiv a b)
      ∧ canonical (fpSqrt a) ∧ ∀ c : Word, canonical (fpMac c a b))
    ∧ (∀ (m : Bool) (a b : Word), canonical (fpPick m a b)) ∧ ∀ (x e : Int), canonical (fpOfInt x e false)

/-- R190, R215: a subnormal operand counts as zero of its sign; a division of a non-zero finite number by a zero gives an
infinity of the product of the signs and 0/0 the NaN; the square root of a negative non-zero number is the NaN; FMIN of
the two zeros is −0 and FMAX +0 in either order; a NaN operand of FMIN or FMAX gives the other where that is normal. -/
def Statements.BinarySpecialCases : Prop :=
  (∀ (a b : Word), a.toNat / 2 ^ 23 % 256 = 0 →
      let z := a &&& 0x80000000
      fpAdd a b = fpAdd z b ∧ fpAdd b a = fpAdd b z ∧ fpSub a b = fpSub z b ∧ fpSub b a = fpSub b z
        ∧ fpMul a b = fpMul z b ∧ fpMul b a = fpMul b z ∧ fpDiv a b = fpDiv z b ∧ fpDiv b a = fpDiv b z
        ∧ fpSqrt a = fpSqrt z)
  ∧ (∀ a b : Word, 0 < a.toNat / 2 ^ 23 % 256 → a.toNat / 2 ^ 23 % 256 < 255 → b.toNat % 2 ^ 31 = 0 →
      fpDiv a b = 0x7F800000 ||| ((a ^^^ b) &&& 0x80000000))
  ∧ (∀ a b : Word, a.toNat % 2 ^ 31 = 0 → b.toNat % 2 ^ 31 = 0 → fpDiv a b = 0x7FC00000)
  ∧ (∀ a : Word, 0 < a.toNat / 2 ^ 23 % 256 → 2 ^ 31 ≤ a.toNat → fpSqrt a = 0x7FC00000)
  ∧ fpPick false 0 0x80000000 = 0x80000000 ∧ fpPick false 0x80000000 0 = 0x80000000
  ∧ fpPick true 0 0x80000000 = 0 ∧ fpPick true 0x80000000 0 = 0
  ∧ (∀ (m : Bool) (a b : Word), a.toNat / 2 ^ 23 % 256 = 255 → a.toNat % 2 ^ 23 ≠ 0 →
      0 < b.toNat / 2 ^ 23 % 256 → b.toNat / 2 ^ 23 % 256 < 255 → fpPick m a b = b ∧ fpPick m b a = b)

/-- R190, R215: a conversion to an integer of `m × 2^e` with `m < 2^24` gives, where no clamp is needed, the integer
nearest to it, an even one of two equally near; outside the 32-bit range it gives the limit of its sign with the flag;
a NaN gives 0 with the flag. That FTOQ rounds so is the model's reading (assumption log 22). -/
def Statements.ConversionsToIntegers : Prop :=
  (∀ s : Int, fpToInt .nan s = (0, true) ∧ fpToInt (.inf false) s = (0x7FFFFFFF, true)
      ∧ fpToInt (.inf true) s = (0x80000000, true))
  ∧ ∀ (neg : Bool) (m k : Nat), m < 2 ^ 24 →
      let x : Int := if neg then -(m : Int) else m
      let w := fpToInt (.fin neg m (-(k : Int))) 0
      w.2 = false ∧ 2 * (w.1.toInt * 2 ^ k - x) ≤ 2 ^ k ∧ 2 * (x - w.1.toInt * 2 ^ k) ≤ 2 ^ k
        ∧ (2 * (w.1.toInt * 2 ^ k - x) = 2 ^ k ∨ 2 * (x - w.1.toInt * 2 ^ k) = 2 ^ k → w.1.toInt % 2 = 0)
        ∧ (2 ^ 31 ≤ x * 2 ^ k → fpToInt (.fin neg m k) 0 = (0x7FFFFFFF, true))
        ∧ (x * 2 ^ k < -(2 ^ 31) → fpToInt (.fin neg m k) 0 = (0x80000000, true))
        ∧ (-(2 ^ 31) ≤ x * 2 ^ k → x * 2 ^ k < 2 ^ 31 → fpToInt (.fin neg m k) 0 = (BitVec.ofInt 32 (x * 2 ^ k), false))

/-! ### Slaso: loops, branches, frame control -/

/-- R191: the post-modify of a pointer: by the step where LEN is 0; else modulo LEN from START, whatever the step's sign.
START and LEN stay. -/
def Statements.PointerPostModify : Prop :=
  ∀ (p : Ptr) (d : Int),
    (p.stepBy d).start = p.start ∧ (p.stepBy d).len = p.len
    ∧ (p.len = 0 → (p.stepBy d).addr = BitVec.ofInt 32 (p.addr.toInt + d))
    ∧ (p.len ≠ 0 → ∃ o : Nat, o < p.len.toNat ∧ (p.stepBy d).addr = p.start + BitVec.ofNat 32 o
        ∧ ((p.addr.toNat : Int) - p.start.toNat + d - o) % p.len.toNat = 0)

/-- R227: LOOP with END beyond itself and a count of 1 to 1,023, or vs[15:0] with REG = 1: at depth 2 it faults with LOOP
whatever the count; a count of 0 goes to END + 1 and pushes nothing; else lc0, or lc1 at depth 1, takes the count and the
bounds and the depth rises. An invalid LOOP halts the steward as ILLEGAL. -/
def Statements.LoopEntry : Prop :=
  ∀ (who : Agent) (reg : Option (Fin 32)) (count : BitVec 10) (last : BitVec 14) (s : State), Issues who 1 s →
    let r := agentRegs who s
    let u := charged who 1 s
    let n : BitVec 16 := BitVec.ofNat 16 (match reg with | some v => (r.vr v).toNat | none => count.toNat)
    let c : LoopCtr := { n := n, start := r.pc + 1, last := last.toNat }
    (r.pc < last.toNat → (reg = none → count ≠ 0) →
      (r.depth = 2 → exec (.loop who reg count last) s = .next (faulted who 5 u))
      ∧ (r.depth < 2 → n = 0 →
          exec (.loop who reg count last) s = .next (putRegs who { r with pc := last.toNat + 1 } u))
      ∧ (r.depth = 0 → n ≠ 0 →
          exec (.loop who reg count last) s = .next (putRegs who { r with lc0 := c, depth := 1, pc := r.pc + 1 } u))
      ∧ (r.depth = 1 → n ≠ 0 →
          exec (.loop who reg count last) s = .next (putRegs who { r with lc1 := c, depth := 2, pc := r.pc + 1 } u)))
    ∧ (who = .steward → (last.toNat ≤ r.pc ∨ (reg = none ∧ count = 0)) →
        exec (.loop who reg count last) s = .next (stwHalt 8 u))

/-- R228: what falling through does: at the last instruction of the innermost active loop with more than one iteration
left the count drops and control returns to the loop's start; with none left the counter is released and control goes on;
elsewhere only the program counter moves. LBRK completes in one cycle: it leaves the innermost loop at END + 1, and at
depth 0 does nothing. A taken branch never changes loop state (`BranchesAndCalls`). -/
def Statements.LoopBackAndBreak : Prop :=
  (∀ r : RegSet,
    (r.depth = 0 → r.advance .fall = { r with pc := r.pc + 1 })
    ∧ (r.depth = 1 → r.lc0.last ≠ r.pc → r.advance .fall = { r with pc := r.pc + 1 })
    ∧ (r.depth = 2 → r.lc1.last ≠ r.pc → r.advance .fall = { r with pc := r.pc + 1 })
    ∧ (r.depth = 1 → r.lc0.last = r.pc → 1 < r.lc0.n.toNat →
        r.advance .fall = { r with lc0 := { r.lc0 with n := BitVec.ofNat 16 (r.lc0.n.toNat - 1) }, pc := r.lc0.start })
    ∧ (r.depth = 2 → r.lc1.last = r.pc → 1 < r.lc1.n.toNat →
        r.advance .fall = { r with lc1 := { r.lc1 with n := BitVec.ofNat 16 (r.lc1.n.toNat - 1) }, pc := r.lc1.start })
    ∧ (r.depth = 1 → r.lc0.last = r.pc → r.lc0.n.toNat ≤ 1 →
        r.advance .fall = { r with lc0 := {}, depth := 0, pc := r.lc0.last + 1 })
    ∧ (r.depth = 2 → r.lc1.last = r.pc → r.lc1.n.toNat ≤ 1 →
        r.advance .fall = { r with lc1 := {}, depth := 1, pc := r.lc1.last + 1 }))
  ∧ ∀ (who : Agent) (s : State), Issues who 1 s →
    let r := agentRegs who s
    let u := charged who 1 s
    (r.depth = 0 → Gives (.lbrk who) who 1 s r)
    ∧ (r.depth = 1 → exec (.lbrk who) s = .next (putRegs who { r with lc0 := {}, depth := 0, pc := r.lc0.last + 1 } u))
    ∧ (r.depth = 2 → exec (.lbrk who) s = .next (putRegs who { r with lc1 := {}, depth := 1, pc := r.lc1.last + 1 } u))

/-- R236, Table 11.4: a taken BR, BRT, BRF, CALL or JMPR takes two cycles and sets the program counter to its target, CALL
with the next word's offset in v30, and changes no loop counter, no loop depth and nothing else; a branch not taken takes
one cycle and falls through. A target outside the region is reached without a fault: FETCH comes with the next word. -/
def Statements.BranchesAndCalls : Prop :=
  ∀ (who : Agent) (q : Fin 4) (vs : Fin 32) (target : BitVec 17) (s : State),
    let r := agentRegs who s
    let goes := fun (i : Instr) (x : RegSet) => exec i s = .next (putRegs who x (charged who 2 s))
    (Issues who 2 s →
      goes (.br who target) { r with pc := target.toNat }
      ∧ goes (.call who target) { put 30 (BitVec.ofNat 32 (r.pc + 1)) r with pc := target.toNat }
      ∧ goes (.jmpr who vs) { r with pc := (r.vr vs).toNat % 2 ^ 17 }
      ∧ (r.q.getLsbD q = true → goes (.brt who q target) { r with pc := target.toNat })
      ∧ (r.q.getLsbD q = false → goes (.brf who q target) { r with pc := target.toNat }))
    ∧ (Issues who 1 s →
      (r.q.getLsbD q = false → Gives (.brt who q target) who 1 s r)
      ∧ (r.q.getLsbD q = true → Gives (.brf who q target) who 1 s r))

/-- R236, R195, R196: EVT latches the context's own event and CAUSE.EVT, and on the steward does nothing; WAITF forms the
snapshot at the next word and takes the context out of its lane's run list; YIELD moves it to the list's tail; both end
the turn. Nothing else changes. -/
def Statements.EventAndFrameControl : Prop :=
  (∀ s, Issues .steward 1 s → Gives (.evt .steward) .steward 1 s s.stw.regs)
  ∧ ∀ (n : Fin 1024) (s : State), Issues (.ctx n) 1 s →
    let u := charged (.ctx n) 1 s
    let c := ctxAt n u
    let r := (agentRegs (.ctx n) s).advance .fall
    let l := n.val / 64
    let rest := (vget u.lane.runList l []).filter (· != n.val)
    exec (.evt (.ctx n)) s = .next (putRegs (.ctx n) r (raise n (setCtx n { c with evt := true } u)))
    ∧ (let v := setCtx n { c with regs := r, form := some r } u
       exec (.waitf (.ctx n)) s = .next { v with
        lane.runList := vset v.lane.runList l rest
        lane.turn := setBit v.lane.turn l false })
    ∧ (let v := setCtx n { c with regs := r } u
       exec (.yield (.ctx n)) s = .next { v with
        lane.runList := vset v.lane.runList l (rest ++ [n.val])
        lane.turn := setBit v.lane.turn l false })

/-! ### Slaso: memory -/

/-- R224, R225: LD of a word, of a pair into an even register and the next, of a Q1.15 half and of an integer half, each
aligned to its size and within reach, with clean ECC: one cycle, the loaded value little-endian, the pointer stepped by
STEP, and nothing else changed, memory included. -/
def Obligations.LoadsOfEverySize : Prop :=
  ∀ (who : Agent) (vd vd1 : Fin 32) (pk : Fin 8) (inc : BitVec 16) (es : List Ecc) (s : State), Issues who 1 s →
    (∀ e ∈ es, e = .clean) →
    let r := agentRegs who s
    let a := r.p[pk].addr.toNat
    let half := byteAt (a + 1) s ++ byteAt a s
    (LoadsFrom who a 4 4 s → Gives (.ld who vd pk 0 inc es) who 1 s (stepped pk inc.toInt (put vd (wordAt a s) r)))
    ∧ (LoadsFrom who a 8 8 s → vd.val % 2 = 0 → vd1.val = vd.val + 1 →
        Gives (.ld who vd pk 1 inc es) who 1 s
          (stepped pk inc.toInt (put vd1 (wordAt (a + 4) s) (put vd (wordAt a s) r))))
    ∧ (LoadsFrom who a 2 2 s →
        Gives (.ld who vd pk 2 inc es) who 1 s
            (stepped pk inc.toInt (put vd (BitVec.ofNat 32 (half.toNat * 2 ^ 16)) r))
        ∧ Gives (.ld who vd pk 3 inc es) who 1 s (stepped pk inc.toInt (put vd (BitVec.ofInt 32 half.toInt) r)))

/-- R224, R225: ST of a word, of a pair, of a Q1.15 half rounded and saturated, and of an integer half: one cycle; exactly
the bytes of its size change, to the value of its row; the pointer steps; CSW.SAT sets where the rounded half clamps;
nothing else changes. -/
def Obligations.StoresOfEverySize : Prop :=
  ∀ (who : Agent) (vd vd1 : Fin 32) (pk : Fin 8) (inc : BitVec 16) (es : List Ecc) (hits : List Bool) (s : State),
    Issues who 1 s → s.memWf = true → (∀ e ∈ es, e = .clean) →
    let r := agentRegs who s
    let a := r.p[pk].addr.toNat
    let x := r.vr vd
    let h := clampQ (x.toInt + 2 ^ 15)
    let halfIs := fun (i : Instr) (w : BitVec 16) (q : RegSet) => ∃ t, exec i s = .next t
      ∧ t = putRegs who (q.advance .fall)
          { charged who 1 s with mem := { s.mem with cells := t.mem.cells, known := t.mem.known } }
      ∧ byteAt (a + 1) t ++ byteAt a t = w ∧ SameMemoryBut a 2 s t
    (StoresTo who a 4 4 s → Stores (.st who vd pk 0 inc es hits) who 1 s a [x] (stepped pk inc.toInt r))
    ∧ (StoresTo who a 8 8 s → vd.val % 2 = 0 → vd1.val = vd.val + 1 →
        Stores (.st who vd pk 1 inc es hits) who 1 s a [x, r.vr vd1] (stepped pk inc.toInt r))
    ∧ (StoresTo who a 2 2 s →
        halfIs (.st who vd pk 2 inc es hits) (BitVec.ofInt 16 (h / 2 ^ 16))
          (stepped pk inc.toInt { r with sat := r.sat || decide (h ≠ x.toInt + 2 ^ 15) })
        ∧ halfIs (.st who vd pk 3 inc es hits) (BitVec.ofNat 16 x.toNat) (stepped pk inc.toInt r))

/-- R218: MACP with two different pointers, each at a readable pair aligned to 8, with clean ECC: one cycle, the exact sum
of the two products accumulated with one saturation, both pointers stepped by 8, and nothing else changed. -/
def Statements.MultiplyAccumulateFromMemory : Prop :=
  ∀ (who : Agent) (ad : Fin 4) (pj pk : Fin 8) (clr neg : Bool) (es : List Ecc) (s : State), Issues who 1 s →
    pj ≠ pk → (∀ e ∈ es, e = .clean) →
    let r := agentRegs who s
    let a := r.p[pj].addr.toNat
    let b := r.p[pk].addr.toNat
    LoadsFrom who a 8 8 s → LoadsFrom who b 8 8 s →
    let sum := (wordAt a s).toInt * (wordAt b s).toInt + (wordAt (a + 4) s).toInt * (wordAt (b + 4) s).toInt
    Gives (.macp who ad pj pk clr neg es) who 1 s
      (stepped pk 8 (stepped pj 8
        (satToA ad ((if clr then 0 else r.a[ad].toInt) + (if neg then -sum else sum)) r)))

/-- R220: BQ with two different pointers, at five readable coefficient words (Q2.30) and at four state words it may both
read and store: three cycles; vd takes the rounded, saturated section output, the state block becomes x, x1, y, y1, the
pointers step by 20 and 16, and nothing else changes. -/
def Statements.BiquadStep : Prop :=
  ∀ (who : Agent) (vd vs : Fin 32) (pc ps : Fin 8) (es : List Ecc) (hits : List Bool) (s : State), Issues who 3 s →
    s.memWf = true → pc ≠ ps → (∀ e ∈ es, e = .clean) →
    let r := agentRegs who s
    let a := r.p[pc].addr.toNat
    let b := r.p[ps].addr.toNat
    LoadsFrom who a 20 4 s → StoresTo who b 16 4 s →
    let c := fun k : Nat => (wordAt (a + 4 * k) s).toInt
    let z := fun k : Nat => (wordAt (b + 4 * k) s).toInt
    let x := r.vr vs
    let acc := c 0 * x.toInt + c 1 * z 0 + c 2 * z 1 - c 3 * z 2 - c 4 * z 3
    let y := roundShift 30 acc
    Stores (.bq who vd vs pc ps es hits) who 3 s b
      [x, wordAt b s, BitVec.ofInt 32 (clampQ y), wordAt (b + 8) s]
      (stepped ps 16 (stepped pc 20 (satTo vd y r)))

/-! ### Slaso: streams -/

/-- R231, R233, R234: SGET reads the sample at position vp[6:0] of a stream that names the context as a reader, 0 beyond
the frame; SPUT writes it in a stream that names the context as its writer, and beyond the frame writes nothing; BSEND
marks a member's stream as sent: each in one cycle, with nothing else changed. -/
def Statements.SamplesAndSends : Prop :=
  ∀ (n : Fin 1024) (vd vp vh : Fin 32) (hoff : BitVec 10) (s : State), Issues (.ctx n) 1 s →
    let r := agentRegs (.ctx n) s
    let h := ((r.vr vh).toNat + hoff.toNat) % 1024
    let i := (r.vr vp).toNat % 128
    let x := strm h s
    let u := charged (.ctx n) 1 s
    let ends := fun (c : Instr) (t : State) => exec c s = .next (putRegs (.ctx n) (r.advance .fall) t)
    ((1, n.val) ∈ x.readers →
      Gives (.sget (.ctx n) vd vp vh hoff) (.ctx n) 1 s
        (put vd (if i < frameLen s then smGet 0 i x.rbuf else 0) r))
    ∧ (x.writer = some (1, n.val) →
      (i < frameLen s →
        ends (.sput (.ctx n) vd vp vh hoff) (setStrm h { x with wbuf := smSet 0 i (r.vr vd) x.wbuf } u))
      ∧ (frameLen s ≤ i → ends (.sput (.ctx n) vd vp vh hoff) u)
      ∧ (fld 0x0A h s ≠ 0 → ends (.bsend (.ctx n) vh hoff) (setStrm h { x with sent := true } u)))

/-- R231, R233: SRD stores the F samples of a stream that names the context as a reader, at pk, in 2 + F/4 cycles; SWR
takes the F words at pk as the frame of a stream that names the context as its writer; both step pk by 4F; nothing else
changes. -/
def Statements.FrameTransfers : Prop :=
  ∀ (n : Fin 1024) (pk : Fin 8) (vh : Fin 32) (hoff : BitVec 10) (es : List Ecc) (s : State),
    let F := frameLen s
    Issues (.ctx n) (2 + F / 4) s → s.memWf = true → (∀ e ∈ es, e = .clean) →
    let r := agentRegs (.ctx n) s
    let a := r.p[pk].addr.toNat
    let h := ((r.vr vh).toNat + hoff.toNat) % 1024
    let x := strm h s
    let q := stepped pk (4 * F) r
    ((1, n.val) ∈ x.readers → StoresTo (.ctx n) a (4 * F) 4 s →
      Stores (.srd (.ctx n) pk vh hoff) (.ctx n) (2 + F / 4) s a ((List.range F).map fun i => smGet 0 i x.rbuf) q)
    ∧ (x.writer = some (1, n.val) → LoadsFrom (.ctx n) a (4 * F) 4 s →
      ∃ f : SMap Word, (∀ i, smGet 0 i f = if i < F then wordAt (a + 4 * i) s else 0)
        ∧ exec (.swr (.ctx n) pk vh hoff es) s
            = .next (putRegs (.ctx n) (q.advance .fall) (setStrm h { x with wbuf := f } (charged (.ctx n) (2 + F / 4) s))))

/-! ### Slaso: faults and overruns -/

/-- R200, R201: what a context fault leaves: the context HALTED with its registers as they stood, the code in
FAULT_CODE and LAST_FAULT, CAUSE.FAULT, its own event and 0x412 latched, the context out of its run list; every other
context, every other run list and all of memory unchanged. -/
def Statements.ContextFaultEffect : Prop :=
  ∀ (n : Fin 1024) (code : Fin 16) (s : State),
    let t := ctxFault n code s
    let c := ctxAt n s
    ctxAt n t = { c with st := .halted, faultCode := code.val, flt := true }
    ∧ (∀ m, m ≠ n.val → ctxAt m t = ctxAt m s)
    ∧ t.evt.latch.getLsbD n = true ∧ t.evt.latch.getLsbD 0x412 = true
    ∧ (∀ e, e ≠ n.val → e ≠ 0x412 → t.evt.latch.getLsbD e = s.evt.latch.getLsbD e)
    ∧ (t.lane.lastFault.toNat / 2 ^ 28 = code.val ∧ t.lane.lastFault.toNat % 2 ^ 14 = n.val
        ∧ t.lane.lastFault.toNat / 2 ^ 14 % 2 ^ 14 = c.regs.pc % 2 ^ 14)
    ∧ n.val ∉ vget t.lane.runList (n.val / 64) []
    ∧ (∀ l, l ≠ n.val / 64 → vget t.lane.runList l [] = vget s.lane.runList l [])
    ∧ t.mem = s.mem ∧ t.strm = s.strm ∧ t.cfg = s.cfg ∧ t.flow = s.flow ∧ t.pending = s.pending

/-- R196, R199, R213: an instruction of a context whose cycles do not fit what is left of its budget and of the frame is
not executed, nor is a turn opened whose 12 switch cycles do not fit: the context overruns, stays RUNNING, counts it, leaves its run list with its own event and 0x414 latched,
and nothing else changes. -/
def Statements.OverrunPreempts : Prop :=
  ∀ (i : Instr) (n : Fin 1024) (cyc : Nat) (s : State),
    slasoOf i s = some (.ctx n, cyc) → i.wf = true → (∀ w r c l, i = .loop w r c l → (ctxAt n s).regs.pc < l.toNat) →
    ctxReady n s = true → (ctxAt n s).regs.pc < (ctxAt n s).words →
    addrOn ((ctxAt n s).code + 4 * (ctxAt n s).regs.pc) s = true →
    (s.lane.turn.getLsbD (n.val / 64) = true → fits n cyc s = false) →
    (s.lane.turn.getLsbD (n.val / 64) = false → fits n 12 s = false) →
    let c := ctxAt n s
    let v := setCtx n { c with ovr := true, ovrNow := true, ovrCount := min 255 (c.ovrCount + 1) } s
    exec i s = .next (raise 0x414 (raise n { v with
      lane.runList := vset v.lane.runList (n.val / 64) ((vget v.lane.runList (n.val / 64) []).filter (· != n.val))
      lane.turn := setBit v.lane.turn (n.val / 64) false }))

/-- R200, R213, R236: an instruction of a context whose program counter has left its code region faults with FETCH before
it issues: no cycle is charged, and the fault's effect is all that happens. -/
def Statements.FetchOutsideTheRegion : Prop :=
  ∀ (i : Instr) (n : Fin 1024) (cyc : Nat) (s : State),
    slasoOf i s = some (.ctx n, cyc) → i.wf = true → (∀ w r c l, i = .loop w r c l → (ctxAt n s).regs.pc < l.toNat) →
    ctxReady n s = true → s.lane.turn.getLsbD (n.val / 64) = true → (ctxAt n s).words ≤ (ctxAt n s).regs.pc →
    exec i s = .next (ctxFault n 1 s)

/-- R25, R192, R193, R225, R231, R234: the checks of accesses, in their order: a word access that is not aligned faults with
ALIGN; an aligned one outside the data window (for a load, and outside the code region; for a store, or into a verified
code region) with ACCESS, and event 0x432 where no bank and no register has the address; one in a quarter that is not ON with ERRRESP; a stream instruction on a stream that does not
name the context with STREAM, and BSEND on a stream that is no member with BRINE. The cycles are charged; nothing else
than the fault happens. -/
def Statements.AccessAndStreamFaults : Prop :=
  ∀ (n : Fin 1024) (vd vp vh : Fin 32) (pk : Fin 8) (inc : BitVec 16) (hoff : BitVec 10) (es : List Ecc)
    (hits : List Bool) (s : State), Issues (.ctx n) 1 s →
    let u := charged (.ctx n) 1 s
    let r := agentRegs (.ctx n) s
    let c := ctxAt n s
    let a := r.p[pk].addr.toNat
    let inData := c.dbase ≤ a ∧ a + 4 ≤ c.dbase + c.dlen
    let inCode := c.code ≤ a ∧ a + 4 ≤ c.code + 4 * c.words
    let locked := ∃ g ∈ s.lane.regions, g.base < a + 4 ∧ a < g.base + 4 * g.words
    let h := ((r.vr vh).toNat + hoff.toNat) % 1024
    let faults := fun (i : Instr) (code : Nat) (t : State) => exec i s = .next (ctxFault n code t)
    let ld : Instr := .ld (.ctx n) vd pk 0 inc es
    let st : Instr := .st (.ctx n) vd pk 0 inc es hits
    (a % 4 ≠ 0 → faults ld 3 u ∧ faults st 3 u)
    ∧ (a % 4 = 0 → ¬inData → ¬inCode → faults ld 2 (raiseIf (unmapped a 4) 0x432 u))
    ∧ (a % 4 = 0 → ¬inData ∨ locked → faults st 2 (raiseIf (unmapped a 4) 0x432 u))
    ∧ (a % 4 = 0 → inData ∨ inCode → addrOn a s = false → faults ld 4 (notOn a u))
    ∧ (a % 4 = 0 → inData → ¬locked → addrOn a s = false → faults st 4 (notOn a u))
    ∧ ((1, n.val) ∉ (strm h s).readers → faults (.sget (.ctx n) vd vp vh hoff) 6 u)
    ∧ ((strm h s).writer ≠ some (1, n.val) →
        faults (.sput (.ctx n) vd vp vh hoff) 6 u ∧ faults (.bsend (.ctx n) vh hoff) 6 u)
    ∧ ((strm h s).writer = some (1, n.val) → fld 0x0A h s = 0 → faults (.bsend (.ctx n) vh hoff) 7 u)

/-- R202, R237: the steward halts with ILLEGAL at an instruction of the lane profile, at a word that breaks its operand
rules, and at an invalid word of its program; with FETCH where its program counter has left its bank: STW_FAULT takes the
code and the program counter, event 0x413 is raised, a debug step is used up, and nothing else changes. -/
def Obligations.StewardHalts : Prop :=
  ∀ (i : Instr) (cyc : Nat) (s : State), stwReady s = true →
    let halts := fun (code : Nat) => { s with
      stw.faulted := true, dbg.step := false
      lane.stwFault := BitVec.ofNat 32 (code * 2 ^ 28 + s.stw.regs.pc % 2 ^ 17)
      evt := { latch := setBit s.evt.latch 0x413 true
               repeats := if s.evt.latch.getLsbD 0x413 then setBit s.evt.repeats 32 true else s.evt.repeats } }
    (s.stw.regs.pc < 0x20000 →
      exec .illegalStewardWord s = .next (halts 8)
      ∧ (slasoOf i s = some (.steward, cyc) →
          (i.wf = false ∨ i ∈ [Instr.waitf .steward, Instr.yield .steward]
            ∨ ∃ pk vd vp vh hoff es, i = .srd .steward pk vh hoff ∨ i = .swr .steward pk vh hoff es
              ∨ i = .sget .steward vd vp vh hoff ∨ i = .sput .steward vd vp vh hoff ∨ i = .bsend .steward vh hoff) →
          exec i s = .next (halts 8)))
    ∧ (0x20000 ≤ s.stw.regs.pc → slasoOf i s = some (.steward, cyc) ∨ i = .illegalStewardWord →
        exec i s = .next (halts 1))

/-! ### Lane faults -/

/-- R252, R254, R259, R265, R276, R528: a lane fault found on a served physical lane isolates it from the same moment: its
logical lane runs no further instruction, its bit of ISOLATED sets, FAULT_INFO, FAULT_FRAME and FAULT_ADDR record it and
event 0x410 is raised; with LX spare, enabled and not yet taken in this frame nothing else happens; without a reserve the
logical lane is marked LOST and event 0x411 is raised too. A register file error is such a fault, and so are an error of a
word of the lane's bank, and of a snapshot that the last tick restored; a corrected one of the three only counts in
LANE.ECC_CORR. The lane watchdog and a failed self-check pass are such faults; a pass that succeeds only sets the lane's
count of frames back. -/
def Obligations.LaneFaultIsolation : Prop :=
  ∀ (phys : Fin 17) (trig : Trigger) (addr : Word) (slot : Fin 64) (same : Bool) (found : LaneError) (s : State),
    live s = true → phys.val < 16 → s.lane.isolated.getLsbD phys = false → laneServed phys s = true →
    s.lane.lx ≠ .inUse ∨ s.lane.lxLane ≠ phys.val → s.lane.fails = [] →
    let spare := decide (s.lane.lx = .spare) && decide (fld 0x08 0x001 s = 1)
    let record := fun (t u : State) (g : Trigger) =>
      laneServed phys u = false
      ∧ u.lane.info.toNat / 2 ^ 28 = trigCode g ∧ u.lane.info.getLsbD 27 = !spare ∧ u.lane.info.getLsbD 4 = false
      ∧ u.lane.info.toNat / 2 ^ 16 % 32 = phys.val ∧ u.lane.info.toNat % 16 = phys.val
      ∧ u.lane.faultFrame = t.clk.frameCnt
      ∧ u.evt.latch.getLsbD 0x410 = true ∧ (spare = false → u.evt.latch.getLsbD 0x411 = true)
      ∧ u.lane.lost = (if spare then t.lane.lost else setBit t.lane.lost phys true)
      ∧ u.lane.isolated = setBit t.lane.isolated phys true
      ∧ u = { t with
          evt := u.evt
          lane := { t.lane with
            fails := u.lane.fails, isolated := u.lane.isolated, info := u.lane.info, faultFrame := u.lane.faultFrame
            faultAddr := u.lane.faultAddr, lost := u.lane.lost } }
    let zeroed := { s with lane.scCount := vset s.lane.scCount phys 0, lane.scDone := setBit s.lane.scDone phys true }
    let a := addr.toNat / 4 * 4
    let meets := match trig with
      | .injected => False
      | .bankEcc => memUnit a = some phys.val ∧ addrOn a s = true
      | .snapshotEcc => (ctxAt (64 * phys.val + slot.val) s).ran = true ∧ vget s.lane.usedNow phys.val 0 = 0
      | _ => True
    (¬ meets → exec (.laneFault phys trig addr slot found) s = .next s)
    ∧ (meets → trig ∈ [.regfileEcc, .bankEcc, .snapshotEcc] → exec (.laneFault phys trig addr slot .corrected) s
        = .next { s with lane.eccCorr := min 0xFFFF (s.lane.eccCorr + 1) })
    ∧ (meets → ∃ t, exec (.laneFault phys trig addr slot (.fault same)) s = .next t ∧ record s t trig
      ∧ (trig = .bankEcc → t.lane.faultAddr = BitVec.ofNat 32 a))
    ∧ (∃ t, exec (.laneWatchdog phys same) s = .next t ∧ record s t .watchdog)
    ∧ (∃ t, exec (.selfCheckPass phys false same) s = .next t ∧ record zeroed t .selfcheck)
    ∧ exec (.selfCheckPass phys true same) s = .next zeroed

/-- R253, R261: 64 frames without a pass set the lane's STARVED bit, raise event 0x415 and start the count again, with no
other effect; a fault that LX's own self-check finds while it is spare makes LX FAILED, raises event 0x410 with
FAULT_INFO.SPARE set and LOST clear, and touches no context; a lane that LX was to take over at the tick is lost then, with
event 0x411 (the model's reading of R259, assumption log 48). -/
def Obligations.SelfCheckOfLanes : Prop :=
  (∀ (phys : Fin 17) (s : State), 64 ≤ s.lane.scCount[phys] →
    exec (.scStarved phys) s = .next (raise 0x415 { s with
      lane.starved := setBit s.lane.starved phys true, lane.scCount := s.lane.scCount.set phys 0 }))
  ∧ ∀ (same : Bool) (s : State), live s = true → s.lane.lx = .spare →
    ∃ t, exec (.selfCheckPass 16 false same) s = .next t
      ∧ t.lane.lx = .failed ∧ t.lane.info.getLsbD 4 = true ∧ t.lane.info.getLsbD 27 = false
      ∧ t.lane.info.toNat / 2 ^ 28 = 3 ∧ t.evt.latch.getLsbD 0x410 = true
      ∧ t.lane.ctx = s.lane.ctx ∧ t.lane.isolated = s.lane.isolated
      ∧ (s.lane.fails.find? (·.spare) = none → t.lane.lost = s.lane.lost ∧ t.lane.fails = s.lane.fails)
      ∧ (∀ f, s.lane.fails.find? (·.spare) = some f → t.lane.lost = setBit s.lane.lost f.lane true
          ∧ t.evt.latch.getLsbD 0x411 = true ∧ t.lane.fails = s.lane.fails.map fun g => { g with spare := false })
      ∧ t = { s with
          evt := t.evt
          lane := { s.lane with
            lx := .failed, info := t.lane.info, faultFrame := s.clk.frameCnt, faultAddr := 0
            scCount := s.lane.scCount.set 16 0, scDone := setBit s.lane.scDone 16 true
            lost := t.lane.lost, fails := t.lane.fails } }

/-! ### Memory -/

/-- R276, R277: the RAM scrubber, while enabled and in a quarter that is ON, changes no byte when it finds a word clean or
corrected: a clean word changes nothing, a corrected one only counts, in LANE.ECC_CORR for units 0 to 16 and in
MEM.ECC.CORR for units 17 to 20. An uncorrectable word of units 16 to 20, or of
a lost lane's bank, is zeroed, counted and recorded and event 0x433
raised; one of a served lane's bank is a lane fault. In a quarter that is not ON it does nothing. The same holds of whoever
else reads the word: the owner of units 18 to 20, here outside a queue of a port, or an engine that reads an image; at the
steward's fetch an uncorrectable error halts the steward too, with ERRRESP (R237). -/
def Statements.RamScrubbing : Prop :=
  ∀ (a : Word) (u : Nat) (f : EccFinder) (s : State),
    let x := a.toNat / 4 * 4
    memUnit x = some u → u < 21 → live s = true →
    let run := fun e => exec (.ramScrubAccess a ⟨e, f⟩) s
    let reads := match f with
      | .scrubber => fld 0x09 0x002 s = 1
      | .owner => 18 ≤ u ∧ portOccupied x 4 s = false
      | .stewardFetch => False
      | .engine => True
    let zeroed := fun (t : State) => wordAt x t = 0 ∧ SameMemoryBut x 4 s t ∧ t.mem.uncorrAddr.toNat = x
      ∧ t.mem.uncorr = min 0xFFFF (s.mem.uncorr + 1) ∧ t.evt.latch.getLsbD 0x433 = true
    (addrOn x s = false → ∀ e, run e = .next s)
    ∧ (f = .scrubber → fld 0x09 0x002 s ≠ 1 → ∀ e, run e = .next s)
    ∧ (f = .owner → u < 18 → ∀ e, run e = .next s)
    ∧ (addrOn x s = true → reads →
      run .clean = .next s
      ∧ (u ≤ 16 → run .single = .next { s with lane.eccCorr := min 0xFFFF (s.lane.eccCorr + 1) })
      ∧ (16 < u → run .single = .next { s with mem.corr := min 0xFFFF (s.mem.corr + 1) })
      ∧ (u < 16 → s.lane.lost.getLsbD u = false → run .uncorr = .next (laneFault u .bankEcc x none false s))
      ∧ (16 ≤ u ∨ s.lane.lost.getLsbD u = true → s.memWf = true → ∃ t, run .uncorr = .next t ∧ zeroed t
          ∧ t = { s with
              evt := t.evt
              mem := { s.mem with
                cells := t.mem.cells, known := t.mem.known, uncorrAddr := t.mem.uncorrAddr, uncorr := t.mem.uncorr } }))
    ∧ (f = .stewardFetch →
      (x ≠ 0x800000 + 4 * s.stw.regs.pc ∨ stwReady s = false → ∀ e, run e = .next s)
      ∧ (x = 0x800000 + 4 * s.stw.regs.pc → stwReady s = true → u = 17 → addrOn x s = true → s.memWf = true →
        run .clean = .next s
        ∧ ∃ t, run .uncorr = .next t ∧ zeroed t ∧ t.stw.faulted = true ∧ t.lane.stwFault.toNat / 2 ^ 28 = 4
          ∧ t.evt.latch.getLsbD 0x413 = true))

/-- R279: the Glacier controller programs the queued words of the oldest word's 32-byte row, in the order in which they
were queued: each takes its newest queued value, the words of other rows stay queued, every byte outside the row stays,
and nothing but the store, its queue and its marks of bad words changes. -/
def Statements.GlacierRowProgramming : Prop :=
  ∀ (a : Nat) (w : Word) (rest : List (Nat × Word)) (s : State),
    s.mem.glQueue = (a, w) :: rest → s.memWf = true →
    (∀ e ∈ s.mem.glQueue, e.1 % 4 = 0) → (s.mem.glQueue.map (·.1)).Nodup →
    ∃ t, exec .glacierRowProgram s = .next t
      ∧ (∀ e ∈ s.mem.glQueue, e.1 / 32 = a / 32 → wordAt e.1 t = e.2)
      ∧ t.mem.glQueue = s.mem.glQueue.filter (fun e => decide (e.1 / 32 ≠ a / 32))
      ∧ SameMemoryBut (a / 32 * 32) 32 s t
      ∧ t = { s with mem := { s.mem with cells := t.mem.cells, glQueue := t.mem.glQueue, glBad := t.mem.glBad } }

/-- R282, R283: the Glacier scrubber reads the word at its position and goes on by one word; a clean or a queued word
changes nothing else. An uncorrectable error counts, records the address and raises event 0x434, and the word is not
rewritten; a corrected one counts and queues a rewrite of the word's own value where a place is free. At the end of the
store the pass is counted and event 0x435 raised. Outside RUN or with no period it pauses. What the read of an image finds in
the store comes with the same command (the model's choice, assumption log 48): a word corrected counts and is rewritten, an
uncorrectable one is bad for the read that follows, and the position stays. -/
def Statements.GlacierScrubbing : Prop :=
  ∀ (e : Ecc) (s : State),
    let a := 0x2000000 + 4 * s.mem.scrubPos
    let free := s.mem.glQueue.all (fun q => decide (q.1 ≠ a))
    (∀ b : Word, 0x2000000 ≤ b.toNat → b.toNat < 0x2100000 → b.toNat % 4 = 0 → live s = true →
      s.mem.glQueue.all (fun q => decide (q.1 ≠ b.toNat)) = true → smGet false b.toNat s.mem.glBad = false →
      exec (.glacierScrubRead (.image b .clean)) s = .next s
      ∧ (s.mem.glQueue.length < 16 → exec (.glacierScrubRead (.image b .single)) s = .next { s with
          mem.glCorr := min 0xFFFF (s.mem.glCorr + 1), mem.glQueue := s.mem.glQueue ++ [(b.toNat, wordAt b.toNat s)] })
      ∧ exec (.glacierScrubRead (.image b .uncorr)) s = .next { s with
          mem.glBad := smSet false b.toNat true s.mem.glBad })
    ∧ (live s = false ∨ s.sup.modeCur ≠ .run ∨ fld 0x09 0x010 s = 0 → exec (.glacierScrubRead (.scrub e)) s = .next s)
    ∧ (live s = true → s.sup.modeCur = .run → fld 0x09 0x010 s ≠ 0 → s.mem.scrubPos + 1 < 0x40000 →
      let moved := fun (t : State) => Host.Outcome.next (ρ := Refusal) (φ := Fault)
        { t with mem.scrubPos := s.mem.scrubPos + 1 }
      (free = false → exec (.glacierScrubRead (.scrub e)) s = moved s)
      ∧ (free = true → smGet false a s.mem.glBad = false →
          exec (.glacierScrubRead (.scrub .clean)) s = moved s
          ∧ (s.mem.glQueue.length < 16 → exec (.glacierScrubRead (.scrub .single)) s = moved { s with
              mem.glCorr := min 0xFFFF (s.mem.glCorr + 1), mem.glQueue := s.mem.glQueue ++ [(a, wordAt a s)] })
          ∧ (16 ≤ s.mem.glQueue.length →
              exec (.glacierScrubRead (.scrub .single)) s = moved { s with mem.glCorr := min 0xFFFF (s.mem.glCorr + 1) }))
      ∧ (free = true → exec (.glacierScrubRead (.scrub .uncorr)) s = moved (raise 0x434 { s with
          mem.glUncorr := min 0xFFFF (s.mem.glUncorr + 1), mem.glUncorrAddr := BitVec.ofNat 32 a
          mem.glBad := smSet false a true s.mem.glBad })))
    ∧ (live s = true → s.sup.modeCur = .run → fld 0x09 0x010 s ≠ 0 → s.mem.scrubPos = 0x3FFFF → free = false →
      exec (.glacierScrubRead (.scrub e)) s = .next (raise 0x435 { s with
        mem.scrubPos := 0, mem.scrubPasses := min 0xFF (s.mem.scrubPasses + 1) }))

/-- R273: the end of a quarter's change of state leaves the quarter no longer changing, and nothing else changed; from
then on its state alone decides whether it is ON. -/
def Statements.BankTransitionEnds : Prop :=
  ∀ (u : Fin 21) (q : Fin 4) (s : State), ∃ t, exec (.bankTransitionDone u q) s = .next t
    ∧ t.mem.transit.getLsbD (4 * u.val + q.val) = false
    ∧ (∀ k, k ≠ 4 * u.val + q.val → t.mem.transit.getLsbD k = s.mem.transit.getLsbD k)
    ∧ quarterOn u q t = decide (bankNow u q s = .on)
    ∧ t = { s with mem := { s.mem with transit := t.mem.transit } }

/-! ### Resets and bring-up -/

/-- R36, R37, R99, R100, R101: what an asserted reset leaves, whatever the state before: reset held with its cause captured and the
count up by one, saturating; every register, queue, event, claim, context, stream and configuration field at its reset
value; the keep domain with its wake timer and PTT, a thermal hold, a KEEP_LOST still owed, the life-cycle words, the
pin-state shadow, the levels of the pins and the waiting commands kept; every ball, but the straps and an MCLK input, at the
RST_CODE that the shadow holds for it, and without one at Hi-Z. An erase under way may leave its marker. Memory keeps every byte, but for the row that the Glacier store was programming, each of whose queued words is old or
new; the words that waited in its queue are discarded. -/
def Obligations.AssertedReset : Prop :=
  ∀ (c : ResetCause) (s : State),
    let t := assertReset c s
    let erases := s.lcy.quiet = some .toReturn ∨ s.lcy.quiet = some .toVoid
    t.rst = { phase := .held, capCause := c, count := min 0xFFFF (s.rst.count + 1), rstnLow := s.rst.rstnLow
              thermHold := s.rst.thermHold, keepLost := s.rst.keepLostDue, keepLostDue := s.rst.keepLostDue }
    ∧ t.lcy = { s.lcy with eraseResumed := false, quiet := none, eraseMarker := t.lcy.eraseMarker }
    ∧ (¬ erases → t.lcy.eraseMarker = s.lcy.eraseMarker)
    ∧ (s.lcy.quiet = some .toReturn → t.lcy.eraseMarker = s.lcy.eraseMarker ∨ t.lcy.eraseMarker = some .ret)
    ∧ (s.lcy.quiet = some .toVoid → t.lcy.eraseMarker = s.lcy.eraseMarker ∨ t.lcy.eraseMarker = some .void)
    ∧ t.pin = { s.pin with assigned := 0 }
    ∧ (∀ (n : Nat) (own : Ball), (n = 46 → mclkInput t = false) →
        phaseBall own n t = if s.pin.loaded = false ∨ strapBall n = true then {} else codeBall (rstCode n s))
    ∧ t = { State.reset with
        sup := { State.reset.sup with
          vsupUp := s.sup.vsupUp, keepOk := s.sup.keepOk, keepCharged := s.sup.keepCharged, nowMv := s.sup.nowMv
          vcoreOk := s.sup.vcoreOk, vanaOk := s.sup.vanaOk, wakeTimerOn := s.sup.wakeTimerOn }
        rst := t.rst, lcy := t.lcy, pin := t.pin
        mem := { State.reset.mem with cells := t.mem.cells, glBad := t.mem.glBad }
        gpio := { State.reset.gpio with level := s.gpio.level }
        wake := { State.reset.wake with pttLow := s.wake.pttLow, pttArmed := s.wake.pttArmed }
        twc := { State.reset.twc with sclLow := s.twc.sclLow, sdaLow := s.twc.sdaLow }
        free := t.free, pending := s.pending }
    ∧ (s.mem.glQueue = [] → SameMemory s t ∧ (¬ erases → t.free = s.free))
    ∧ (∀ a w rest, s.mem.glQueue = (a, w) :: rest → s.memWf = true →
        (∀ e ∈ s.mem.glQueue, e.1 % 4 = 0) → (s.mem.glQueue.map (·.1)).Nodup →
        SameMemoryBut (a / 32 * 32) 32 s t
        ∧ ∀ e ∈ s.mem.glQueue, e.1 / 32 = a / 32 → wordAt e.1 t = wordAt e.1 s ∨ wordAt e.1 t = e.2)

/-- R96, R98, R116, R52, R53, R78, R114, R125: each reset source asserts the reset of its cause, or of the higher-ranking
cause that asserts in the same cycle, and each of the two leaves what its rule adds: a supply below BOR the unpowered phase
and no pin-state shadow; RST_N its held level; a thermal reset its hold; a failed regulator step the retry of that step. One
that comes once the erase of a transition has begun leaves the marker of that erase (R121, R507). -/
def Statements.ResetSources : Prop :=
  ∀ (same : Option ResetCause) (ns : Nat) (late : Bool) (s : State),
    let after := fun (c : ResetCause) (same : Option ResetCause) (q : State) =>
      let t := assertReset (causeOf c same) q
      let u := { t with rst := { t.rst with
        thermHold := s.rst.thermHold || decide (c = .thermal ∨ same = some .thermal)
        rstnLow := s.rst.rstnLow || decide (c = .rstN ∨ same = some .rstN) } }
      if c = .bor ∨ same = some .bor then { u with
        sup := { u.sup with vsupUp := false, keepCharged := false }
        rst := { u.rst with phase := .unpowered, thermHold := false }
        pin := { u.pin with shadow := [], valid := false, loaded := false } }
      else u
    let ended := { s with lcy := { s.lcy with
      quiet := none
      eraseMarker := if late then (match s.lcy.quiet with
        | some .toReturn => some .ret | some .toVoid => some .void | _ => s.lcy.eraseMarker) else s.lcy.eraseMarker } }
    (s.sup.vsupUp = true → exec (.bor late) s = .next (after .bor none ended))
    ∧ (s.sup.vsupUp = true → 4000 ≤ ns → exec (.rstNPulse ns late) s = .next (after .rstN none ended))
    ∧ (ns < 1000 → exec (.rstNPulse ns late) s = .next s)
    ∧ (live s = true → s.sup.modeCur = .run ∨ s.sup.modeCur = .listen →
        exec (.thermalReset same) s = .next (after .thermal same s))
    ∧ (live s = true → s.sup.modeCur = .standby →
      exec (.thermalComparatorSample false) s = .next { s with rst := { s.rst with thermRun := 0 } }
      ∧ (s.rst.thermRun = 0 →
          exec (.thermalComparatorSample true) s = .next { s with rst := { s.rst with thermRun := 1 } })
      ∧ (0 < s.rst.thermRun → exec (.thermalComparatorSample true) s = .next (after .thermal none s)))
    ∧ (fld 0x03 0x001 s ≠ 0 → live s = true → s.sup.modeCur = .run → s.dbg.halted = false ∨ performing s ≠ [] →
        exec (.watchdogExpiry same) s = .next (after .wdog same s))
    ∧ (fld 0x03 0x001 s = 0 ∨ s.sup.modeCur ≠ .run ∨ (s.dbg.halted = true ∧ performing s = []) →
        exec (.watchdogExpiry same) s = .next s)
    ∧ (s.rst.phase = .regulators → exec .regulatorRetry s = .next
      (let t := assertReset .regFail s
       { t with rst := { t.rst with phase := .regulators } }))
    ∧ (live s = true → (s.sup.modeCur ≠ .shutdown ∧ s.sup.vcoreOk = false)
          ∨ ((s.sup.modeCur = .run ∨ s.sup.modeCur = .listen) ∧ s.sup.vanaOk = false) →
        exec (.regFailTimeout same) s = .next (after .regFail same s))
    ∧ (live s = true → s.sup.modeCur = .run → s.clk.pllLock = false →
        exec (.pllUnlockTimeout same) s = .next (after .clkFail same s))

/-- R114: of two causes asserting in the same cycle the earlier one of the list BOR, REG_FAIL, CLK_FAIL, THERMAL, RST_N,
DEBUG, WDOG, LCY, SOFT is the one recorded, whichever is named first. -/
def Statements.CausePriority : Prop :=
  let order : List ResetCause := [.bor, .regFail, .clkFail, .thermal, .rstN, .debug, .wdog, .lcy, .soft]
  (∀ c, causeOf c none = c)
  ∧ ∀ (i j : Fin 9), i ≤ j → causeOf order[i] (some order[j]) = order[i] ∧ causeOf order[j] (some order[i]) = order[i]

/-- R49, R54, R97, R98, R114: POR release starts bring-up, at once where RST_N is not low; where the keep domain was lost
the captured cause and the count read 0 and KEEP_LOST is owed. The keep domain is lost only without VSUP. The end of the
10 µs hold, the rise of RST_N and the die's cooling each start the regulator step where nothing else holds the reset, and
change nothing else. -/
def Statements.BringUpBegins : Prop :=
  ∀ s : State,
    let next := fun (low : Bool) => if low then BootPhase.held else BootPhase.regulators
    (s.sup.vsupUp = false → s.sup.keepOk = true → exec .porRelease s = .next { s with
      sup := { s.sup with vsupUp := true }, rst := { s.rst with phase := next s.rst.rstnLow } })
    ∧ (s.sup.vsupUp = false → s.sup.keepOk = false → exec .porRelease s = .next { s with
      sup := { s.sup with vsupUp := true, keepOk := true, wakeTimerOn := false }
      rst := { s.rst with
        phase := next s.rst.rstnLow, capCause := .none, count := 0, keepLost := true, keepLostDue := true } })
    ∧ (s.sup.vsupUp = false →
        exec .keepDomainLost s = .next { s with sup := { s.sup with keepOk := false, wakeTimerOn := false } })
    ∧ (s.sup.vsupUp = true → exec .keepDomainLost s = .next s)
    ∧ (s.rst.phase = .held →
      (s.rst.rstnLow = false → s.rst.thermHold = false →
        exec .resetHoldExpiry s = .next { s with rst := { s.rst with phase := .regulators } })
      ∧ (s.rst.rstnLow = true ∨ s.rst.thermHold = true → exec .resetHoldExpiry s = .next s)
      ∧ (s.rst.rstnLow = true → exec .rstNRelease s = .next { s with
          rst := { s.rst with
            rstnLow := false, phase := if s.rst.thermHold then .held else .regulators } })
      ∧ (s.rst.thermHold = true → exec .thermalResetRelease s = .next { s with
          rst := { s.rst with thermHold := false, phase := next s.rst.rstnLow } }))

/-- R72, R101, R103, R37, R41, R77, R124: the lock of the main PLL ends the regulator and clock steps: the fuse map is loaded
(the life-cycle state, the boot key, the pin-state words or, failing their check, which a section that FUSE_WRITE has written
passes, Hi-Z for every ball), every byte of RAM reads 0, every
byte of the Glacier store stands, and nothing else changes. A clock step without a reference records it. -/
def Statements.FuseMapLoad : Prop :=
  ∀ (pinOk : Bool) (s : State), s.rst.phase = .regulators →
    let ok := pinOk || s.lcy.pinWritten
    (s.lcy.eraseMarker = none → ∃ t, exec (.pllLocked pinOk) s = .next t
      ∧ (∀ a, a < 0x2000000 → byteAt a t = 0) ∧ (∀ a, 0x2000000 ≤ a → byteAt a t = byteAt a s)
      ∧ t = { s with
          rst := { s.rst with phase := .fused }, clk := { s.clk with pllLock := true }
          sup := { s.sup with vcoreOk := true, vanaOk := true }
          lcy := { s.lcy with shadow := s.lcy.code, keyLoad := s.lcy.keyWords, keyLoadMask := s.lcy.keyMask }
          pin := { s.pin with
            shadow := if ok then s.lcy.pinFuse else [], valid := ok, loaded := true, badDue := !ok }
          mem := { s.mem with cells := t.mem.cells } })
    ∧ exec .refAbsentTimeout s = .next { s with clk := { s.clk with refAbsent := true } }

/-- R121: where an erase was interrupted, bring-up completes it: the Glacier store reads 0, the customer key and the token's
hash are gone, the state that the marker names is in force and event 0x4F7 is raised. -/
def Statements.InterruptedEraseCompletes : Prop :=
  ∀ (pinOk : Bool) (l : Life) (s : State), s.rst.phase = .regulators → s.lcy.eraseMarker = some l →
    ∃ t, exec (.pllLocked pinOk) s = .next t
      ∧ (∀ a, a < 0x2100000 → byteAt a t = 0) ∧ (∀ a, 0x2100000 ≤ a → byteAt a t = byteAt a s)
      ∧ t.lcy.shadow = l ∧ t.lcy.code = l ∧ t.lcy.eraseMarker = none ∧ t.lcy.keyWords = [] ∧ t.lcy.keyMask = 0
      ∧ t.lcy.keyLoadMask = 0 ∧ t.lcy.tokenHash = none ∧ t.evt.latch.getLsbD 0x4F7 = true ∧ t.rst.phase = .fused

/-- R106, R107, R110: internal reset rises: the straps are sampled, CAUSE takes the captured cause, and the boot ROM takes
the path of the life-cycle state and the straps. A Glacier boot hands over to slot A's image where it passes its checks,
else to slot B's with FALLBACK set, the errors that each read met noted; an EEPROM boot, after its attempts at the header,
to the image it read; a staged image that the host submits boots by the host's path. The steward starts at the image's
entry, event 0x4F0 is owed to the first tick; with no good image the boot ROM waits for the host with the failed check
recorded. -/
def Obligations.BootPaths : Prop :=
  ∀ (boot ckmode : BitVec 2) (aOk bOk : Bool) (eeprom : EepromRead) (s : State),
    let sA := imgEcc 0x2000000 s
    let a := imgAt 0x2000000 sA
    let e := eepromImg eeprom
    let sE := eepromAttempts eeprom s
    let h := imgAt 0x1000000 s
    let hands := fun (i : Instr) (u : State) (r : Img) (path : BitVec 2) (slot fallback : Bool) => ∃ t, exec i s = .next t
      ∧ t.rst = { u.rst with
          stage := .running, path := path, slot := slot, fallback := fallback, handedOver := true, bootDone := false
          fallbackDue := fallback, lastErr := t.rst.lastErr, errSub := t.rst.errSub }
      ∧ t.stw = { regs := { pc := (imgWord r 0x14 - 0x800000) / 4 } }
      ∧ t = { u with rst := t.rst, stw := t.stw, mem := { u.mem with cells := t.mem.cells } }
    let waits := fun (i : Instr) (u : State) (x : Nat × Nat) => ∃ t, exec i s = .next t
      ∧ t.rst.stage = .waitHost ∧ t.rst.lastErr = BitVec.ofNat 8 x.1 ∧ t.rst.errSub = BitVec.ofNat 4 x.2
      ∧ t = { u with rst := t.rst, mem := { u.mem with cells := t.mem.cells } }
    let check := .imageCheckComplete aOk bOk eeprom
    let loads := s.rst.stage = .read ∨ s.rst.stage = .check
    (s.rst.phase = .fused → ∃ t, exec (.internalResetRelease boot ckmode) s = .next t
      ∧ t.rst = { s.rst with
          phase := .running, boot := boot, ckmode := ckmode, cause := s.rst.capCause
          wakeSrc := if s.rst.capCause = .shutdownWake then s.rst.capWake else 0
          stage := match s.lcy.shadow with
            | .void => .void
            | .fab => .fabWait
            | _ => if boot = 2 then .waitHost else if boot = 3 then .waitDfu else .read }
      ∧ t.clk.refState = (if ckmode.toNat < 2 ∧ s.clk.refAbsent = false then .locked else .freeRun)
      ∧ (ckmode.toNat < 2 → s.clk.refAbsent = false → t.evt.latch.getLsbD 0x404 = true)
      ∧ t.mem = s.mem ∧ t.cfg = s.cfg ∧ t.lcy = s.lcy)
    ∧ (¬ loads → exec check s = .next s)
    ∧ (live s = true → loads → s.rst.boot = 0 →
      (checkImage a aOk none s.lcy.shadow sA = none → hands check sA a 0 false false)
      ∧ (∀ x, checkImage a aOk none s.lcy.shadow sA = some x →
          let sB := imgEcc 0x2080000 (bootError a x sA)
          let b := imgAt 0x2080000 sB
          (checkImage b bOk none s.lcy.shadow sB = none → hands check sB b 0 true true)
          ∧ ∀ y, checkImage b bOk none s.lcy.shadow sB = some y → waits check sB y))
    ∧ (sE.rst.attempts = min 3 (eeprom.failed.val + 1) ∧ sE.twc.clearClocks = eeprom.clocks.val
      ∧ sE.evt.latch.getLsbD 0x4B7 = true ∧ sE = { s with rst := sE.rst, twc := sE.twc, evt := sE.evt })
    ∧ (live s = true → loads → s.rst.boot ≠ 0 →
      (checkImage e (eepromAnswers eeprom) none s.lcy.shadow sE = none → hands check sE e 1 false false)
      ∧ ∀ x, checkImage e (eepromAnswers eeprom) none s.lcy.shadow sE = some x → waits check sE x)
    ∧ (live s = true → s.rst.stage = .waitHost →
      let m := fun k => smGet 0 k s.win.mailbox
      let len := (m 3 ++ m 2 ++ m 1 ++ m 0).toNat
      (checkImage h true (some len) s.lcy.shadow s = none → hands .hostImageSubmit s h 2 false s.rst.fallback)
      ∧ ∀ x, checkImage h true (some len) s.lcy.shadow s = some x → waits .hostImageSubmit s x)

/-! ### Supply, regulators, boost -/

/-- R70, R61, R63: one sample of the supply monitor: NOW_MV takes it, MIN_MV the least, BOW its comparison with BOW_LEVEL;
the third sample in a row below BOW_LEVEL raises event 0x4D2 where it is armed, and disarms it until 1,000 samples in a
row have lain above BOW_LEVEL + 40 mV; the sag step rises, with event 0x4D3, to the number of thresholds from SAG0 on that
three samples in a row lie below; it never falls by a sample. No memory, context, stream or field changes. -/
def Statements.SupplySamples : Prop :=
  ∀ (mv : BitVec 12) (s : State),
    let level := fun k => 1700 + 20 * fld 0x02 (0x010 + k) s
    let low := if mv.toNat < level 0 then s.sup.bowLow + 1 else 0
    let high := if level 0 + 40 < mv.toNat then min 1000 (s.sup.bowHigh + 1) else 0
    let armed := s.sup.bowArmed || decide (high = 1000)
    let cnt := fun k => if mv.toNat < level (k + 1) then min 3 (vget s.sup.sagLow k 0 + 1) else 0
    ∃ t, exec (.vsupSample mv) s = .next t
      ∧ t.sup.nowMv = mv.toNat ∧ t.sup.minMv = min s.sup.minMv mv.toNat
      ∧ t.sup.bow = decide (mv.toNat < level 0) ∧ t.sup.bowLow = low ∧ t.sup.bowHigh = high
      ∧ (armed = true → low = 3 → t.evt.latch.getLsbD 0x4D2 = true ∧ t.sup.bowArmed = false)
      ∧ (armed = false ∨ low ≠ 3 →
          t.evt.latch.getLsbD 0x4D2 = s.evt.latch.getLsbD 0x4D2 ∧ t.sup.bowArmed = armed)
      ∧ (∀ k, k < 4 → vget t.sup.sagLow k 0 = cnt k)
      ∧ (∀ n, n ≤ 4 → fld 0x02 0x015 s = 1 → s.sup.sagStep < n → (∀ k, k < n → cnt k = 3) → (n < 4 → cnt n ≠ 3) →
          t.sup.sagStep = n ∧ t.evt.latch.getLsbD 0x4D3 = true)
      ∧ s.sup.sagStep ≤ t.sup.sagStep
      ∧ (fld 0x02 0x015 s ≠ 1 → t.sup.sagStep = s.sup.sagStep)
      ∧ t.mem = s.mem ∧ t.lane = s.lane ∧ t.strm = s.strm ∧ t.cfg = s.cfg ∧ t.flow = s.flow ∧ t.boost = s.boost

/-- R61, R62: after 200 ms more than 40 mV above the threshold of the step in force the sag step falls by one and the
boost's peak limit, which is 3,200 mA less 400 mA for each step while folding is enabled, rises with it. -/
def Statements.SagStepFalls : Prop :=
  ∀ s : State, 0 < s.sup.sagStep → s.sup.sagStep ≤ 4 →
    1700 + 20 * fld 0x02 (0x010 + s.sup.sagStep) s + 40 < s.sup.nowMv →
    ∃ t, exec .sagStepRelease s = .next t
      ∧ t.sup = { s.sup with sagStep := s.sup.sagStep - 1 }
      ∧ (fld 0x02 0x015 s = 1 → fld 0x31 0x003 s = 1 → boostLimit t = boostLimit s + 400)
      ∧ t = { s with sup := t.sup, spk := t.spk }

/-- R64, R66, R71: the boost: within 3 % of its target PGOOD sets and channels that wait for it go on; leaving the band
clears PGOOD; an over-voltage stops it with OVP set and event 0x4D4, and once VSPK has fallen OVP clears and it restarts, in
RUN, at soft start; without PGOOD in time since EN it stops with SS_FAIL and event 0x4D4; the held peak limit raises event
0x4D5. -/
def Statements.BoostEvents : Prop :=
  ∀ s : State,
    (s.boost.phase = .softStart ∨ s.boost.phase = .on →
      exec .boostPgood s = .next (spkPgood { s with boost := { s.boost with phase := .on, pgood := true, reached := true } })
      ∧ exec .boostOvp s = .next (raise 0x4D4 (spkMuteAll { s with
          boost := { s.boost with phase := .ovpStop, ovp := true, pgood := false } }))
      ∧ exec .boostIlim s = .next (raise 0x4D5 { s with boost := { s.boost with ilimLeft := 4 } }))
    ∧ exec .boostPgoodLost s = .next { s with boost := { s.boost with pgood := false } }
    ∧ (s.boost.ovp = true →
        exec .boostOvpRecovery s = .next { s with boost := { s.boost with
          ovp := false
          phase := if s.boost.phase ≠ .ovpStop then s.boost.phase
            else if s.sup.modeCur = .run then .softStart else .idle } })
    ∧ (s.boost.ovp = false → exec .boostOvpRecovery s = .next s)
    ∧ (s.boost.phase = .softStart ∨ s.boost.phase = .ovpStop → s.boost.reached = false →
        exec .boostSsTimeout s = .next (raise 0x4D4 { s with
          boost := { s.boost with phase := .ssFailed, ssFail := true } }))

/-- R53, R55: an enabled rail out of regulation (VCORE but in SHUTDOWN, VANA in RUN and LISTEN, VUSB with its pump) raises
event 0x4D6 and clears its flag, VUSB also detaching USB; back in regulation it sets the flag again; a rail that is off does
neither. KEEP_CHARGED sets once the capacitor is charged; its fall, and its absence 500 ms after POR, raise
event 0x4D7. -/
def Statements.RegulatorsAndKeepCharge : Prop :=
  ∀ s : State,
    let vcore := s.sup.modeCur ≠ .shutdown
    let vana := s.sup.modeCur = .run ∨ s.sup.modeCur = .listen
    (live s = true →
      (vcore → exec (.regOutOfRegulation .vcore) s = .next (raise 0x4D6 { s with sup := { s.sup with vcoreOk := false } }))
      ∧ (vana → exec (.regOutOfRegulation .vana) s = .next (raise 0x4D6 { s with sup := { s.sup with vanaOk := false } }))
      ∧ (¬ vcore → exec (.regOutOfRegulation .vcore) s = .next s)
      ∧ (¬ vana → exec (.regOutOfRegulation .vana) s = .next s)
      ∧ (s.sup.usbPump = false → exec (.regOutOfRegulation .vusb) s = .next s)
      ∧ (s.sup.usbPump = true → exec (.regOutOfRegulation .vusb) s
          = .next (raise 0x4D6 (usbDetach { s with sup := { s.sup with vusbOk := false } }))))
    ∧ (vcore → exec (.regBackInRegulation .vcore) s = .next { s with sup := { s.sup with vcoreOk := true } })
    ∧ (vana → exec (.regBackInRegulation .vana) s = .next { s with sup := { s.sup with vanaOk := true } })
    ∧ (s.sup.usbPump = true →
        exec (.regBackInRegulation .vusb) s = .next { s with sup := { s.sup with vusbOk := true } })
    ∧ (s.sup.vsupUp = true → exec .keepCharged s = .next { s with sup := { s.sup with keepCharged := true } })
    ∧ (live s = true → s.sup.keepCharged = false → exec .vkeepCheckTimeout s = .next (raise 0x4D7 s))
    ∧ (s.sup.keepCharged = true → exec .vkeepCheckTimeout s = .next s)
    ∧ (live s = true → s.sup.vsupUp = true → s.sup.keepCharged = true →
        exec .keepChargeDrop s = .next (raise 0x4D7 { s with sup := { s.sup with keepCharged := false } }))

/-! ### Wake sources -/

/-- R57, R58, R65, R115, Table 03.4: a source that its mode accepts and PWR.WAKE_EN admits, or PTT and voice in LISTEN
whatever it holds, begins the exit to RUN and adds itself to WAKE_CAUSE; from SHUTDOWN it resets the part with cause
SHUTDOWN_WAKE; one that is not accepted or not enabled does not wake. The wake timer fires once. -/
def Obligations.WakeSources : Prop :=
  ∀ (w : WakeSrc) (s : State),
    let bit := match w with
      | .voice => 0 | .ptt => 1 | .gpio => 2 | .twh => 3 | .usbResume => 4 | .usbVbus => 4 | .ring => 5 | .timer => 6
    let enabled := (fld 0x02 0x002 s).testBit bit
    let mask : BitVec 7 := BitVec.ofNat 7 (2 ^ bit)
    let exits := fun (i : Instr) => ∃ t, exec i s = .next t
      ∧ t.sup.waking = true ∧ t.sup.wakeCause = s.sup.wakeCause ||| mask ∧ t.sup.modeCur = s.sup.modeCur
      ∧ t.mem = s.mem ∧ t.lane = s.lane ∧ t.cfg = s.cfg
    let stays := ∃ t, exec (.wakeSource w) s = .next t ∧ t.sup = s.sup ∧ t.rst = s.rst ∧ t.mem = s.mem
    (s.sup.modeCur = .listen → enabled = true ∨ w = .voice ∨ w = .ptt → exits (.wakeSource w))
    ∧ (s.sup.modeCur = .listen → enabled = false → w ≠ .voice → w ≠ .ptt → stays)
    ∧ (s.sup.modeCur = .standby → w ≠ .voice → enabled = true → exits (.wakeSource w))
    ∧ (s.sup.modeCur = .standby → w = .voice ∨ enabled = false → stays)
    ∧ (s.sup.modeCur = .shutdown → w = .ptt ∨ w = .usbVbus ∨ w = .timer → enabled = true →
        ∃ t, exec (.wakeSource w) s = .next t ∧ t.rst.phase = .regulators ∧ t.rst.capCause = .shutdownWake
          ∧ t.rst.capWake = mask)
    ∧ (s.sup.modeCur = .shutdown → (w ≠ .ptt ∧ w ≠ .usbVbus ∧ w ≠ .timer) ∨ enabled = false → stays)
    ∧ (s.sup.modeCur = .listen ∨ s.sup.modeCur = .standby → s.sup.wakeTimerOn = true →
        (fld 0x02 0x002 s).testBit 6 = true →
        ∃ t, exec .wakeTimerExpiry s = .next t ∧ t.sup.waking = true ∧ t.sup.wakeTimerOn = false
          ∧ t.sup.wakeCause = s.sup.wakeCause ||| 0x40)

/-! ### Clocks -/

/-- R74 to R78, R95: the reference monitor counts good and bad periods; a lost reference is held over with event 0x403; a
restored one is acquired, and once steering ends it is locked with event 0x404; the PLL's lock detector raises event 0x405
and its return sets the lock again. Each changes nothing else. -/
def Obligations.ReferenceAndPll : Prop :=
  ∀ (n : Nat) (s : State), live s = true →
    let ref := fun (x : RefState) => { s with clk := { s.clk with refState := x } }
    (s.rst.ckmode = 0 →
      (690 ≤ n → n ≤ 810 → exec (.refMonitorPeriod n) s = .next { s with
        clk := { s.clk with refBad := 0, refGood := min 32 (s.clk.refGood + 1) } })
      ∧ (n < 690 ∨ 810 < n → exec (.refMonitorPeriod n) s = .next { s with
        clk := { s.clk with refBad := min 2 (s.clk.refBad + 1), refGood := 0 } }))
    ∧ (s.rst.ckmode = 1 → ∃ t, exec (.refMonitorPeriod n) s = .next t
        ∧ (690 ≤ n ∧ n ≤ 810 ∧ s.clk.mclkKind = 1 → t.clk.mclkFound = true ∧ t.clk.mclkHalf = false)
        ∧ (345 ≤ n ∧ n ≤ 405 ∧ s.clk.mclkKind = 2 → t.clk.mclkFound = true ∧ t.clk.mclkHalf = true)
        ∧ (let good := (690 ≤ n ∧ n ≤ 810 ∧ (s.clk.mclkFound = false ∨ s.clk.mclkHalf = false))
             ∨ (345 ≤ n ∧ n ≤ 405 ∧ (s.clk.mclkFound = false ∨ s.clk.mclkHalf = true))
           (good → t.clk.refBad = 0 ∧ t.clk.refGood = min 32 (s.clk.refGood + 1))
           ∧ (¬ good → t.clk.refBad = min 2 (s.clk.refBad + 1) ∧ t.clk.refGood = 0))
        ∧ t = { s with clk := { s.clk with
            mclkKind := t.clk.mclkKind, mclkFound := t.clk.mclkFound, mclkHalf := t.clk.mclkHalf
            refBad := t.clk.refBad, refGood := t.clk.refGood } })
    ∧ ((2 ≤ s.rst.ckmode.toNat ∨ s.clk.refBad = 2) → s.clk.refState = .locked ∨ s.clk.refState = .acquiring →
        exec .refLost s = .next (raise 0x403 (ref .holdover)))
    ∧ ((match s.rst.ckmode.toNat with
        | 2 => s.usb.state ∈ [.default, .addressed, .configured, .dfu]
        | 3 => s.ring.lock = true
        | _ => s.clk.refGood = 32) → s.clk.refState = .holdover ∨ s.clk.refState = .freeRun →
        exec .refRestored s = .next (ref .acquiring))
    ∧ (s.clk.refState = .acquiring → exec .refLocked s = .next (raise 0x404 (ref .locked)))
    ∧ (s.clk.pllLock = true → s.clk.refState = .locked ∨ s.clk.refState = .acquiring →
        exec .pllUnlock s = .next (raise 0x405 { s with clk := { s.clk with pllLock := false } }))
    ∧ (s.sup.modeCur = .run → exec .pllRelocked s = .next { s with clk := { s.clk with pllLock := true } })
    ∧ (s.sup.modeCur ≠ .run → exec .pllRelocked s = .next s)

/-! ### The queue, reset, and rules of the whole machine -/

/-- A step with a command at the front of the queue is `exec` of that command on the state with the queue's rest. On an
empty queue time passes, which is the model's choice (assumption log 5): an image that the boot ROM has read is checked,
wrapped resets have ended and VSPK has discharged; a stopped master port finishes its sample period, a line output's ramp
down ends, and nothing else changes. -/
def Obligations.StepRunsTheFrontCommand : Prop :=
  (∀ (c : Instr) (rest : List Instr) (s : State), s.pending = c :: rest → step s = exec c { s with pending := rest })
  ∧ ∀ s : State, s.pending = [] → ∃ t, step s = .next t
    ∧ t.rst = { s.rst with resets := [], stage := if live s = true ∧ s.rst.stage = .read then .check else s.rst.stage }
    ∧ t.boost = { s.boost with discharging := false }
    ∧ t = { s with
        rst := t.rst, boost := t.boost, dac := t.dac, sp := t.sp, clk := { s.clk with ports := t.clk.ports } }

/-- No command ends the run: each of them, in every state, answers a next state, and none touches the queue. That a
command which cannot occur in a state leaves it unchanged is the model's choice (assumption log 6, 8). -/
def Obligations.EveryCommandAnswers : Prop :=
  ∀ (c : Instr) (s : State), ∃ t, exec c s = .next t ∧ t.pending = s.pending

/-- The state of `State.reset`: every configuration field reads the reset value of its table, no event is latched, no
claim is held, every context is FREE and every stream unused. That it is the part before POR release with VSUP down and
all of memory 0 is the model's choice (assumption log 1, 2). -/
def Obligations.ResetState : Prop :=
  let s := State.reset
  s.memWf = true ∧ s.pending = [] ∧ (∀ a, byteAt a s = 0) ∧ s.rst.phase = .unpowered ∧ s.sup.vsupUp = false
  ∧ (∀ blk fid, fld blk fid s = fieldReset (fkey blk fid)) ∧ s.flow = []
  ∧ fld 0x01 0x010 s = 2 ∧ (∀ n, n < 1024 → fld 0x08 (0x400 + n) s = 4608) ∧ fld 0x05 0x001 s = 0x3A
  ∧ (∀ g, g < 64 → fld 0x3F (0x100 + g) s = 0xFFFFFFFF)
  ∧ (∀ n, s.evt.latch.getLsbD n = false) ∧ s.evt.repeats = 0 ∧ s.cmd.claims = [] ∧ s.cmd.jobs = []
  ∧ (∀ n, (ctxAt n s).st = .free) ∧ (∀ n, strm n s = {})
  ∧ s.win.page = 0x40000000 ∧ s.sup.minMv = 0xFFF ∧ s.ring.addr = 0x7E ∧ s.ring.state = .off

/-- Every step keeps the canonical form of memory: addresses strictly rising, no byte listed that reads 0. -/
def Obligations.MemoryStaysCanonical : Prop :=
  ∀ s t : State, s.memWf = true → step s = .next t → t.memWf = true

/-- R119: no code is ever written over VOID: from every state in which VOID stands and nothing under way would change it,
every step leads to such a state again; and a transition to VOID, at its reset, leads to one. -/
def Obligations.VoidIsFinal : Prop :=
  (∀ s t : State, VoidFinal s → step s = .next t → VoidFinal t)
  ∧ ∀ s : State, s.lcy.quiet = some .toVoid → s.lcy.eraseMarker = none →
      ∃ t, exec .transitionReset s = .next t ∧ VoidFinal t

/-! ### Steward-only words -/

/-- R122, R130, R168, R171 to R175, R208, R238, R274: a steward-only word, from a mailbox as a block of its own or from the
steward's program, does nothing while its source cannot have it taken in, but that in VOID a block of the host or of USB is
answered LOCKED; with a failing check it has no effect but the response of its first failure and, of a LOAD, its result in
LANE.LOAD_STATUS; without a perform phase its effect stands with the response DONE, its reset, if it is one, perhaps still
lasting; else it enters its perform phase. The commands so covered are those that `wordOf` names; that each is a command of
its own is the model's choice (assumption log 11), as is the LOAD status of a rejected word (assumption log 45). -/
def Obligations.OneWordCommands : Prop :=
  (∀ (i : Instr) (src : Source) (o : StwOp) (lits : Nat) (s : State), wordOf i s = some (src, o, lits) →
    let u := heard src o lits s
    let void := live s = true ∧ s.lcy.shadow = .void ∧ (src = .host ∨ src = .usb) ∧ sourceReady src s = true
    (¬ Accepts src s → void → exec i s = .next (respond src 0 0 (0xA, 0) s))
    ∧ (¬ Accepts src s → ¬ void → exec i s = .next s)
    ∧ (Accepts src s →
      (∀ e, wordErr src o true u = some e → exec i s = .next (respond src 0 0 e
          (if isLoad o then { u with lane.loadStatus := BitVec.ofNat 32 (e.1 * 2 ^ 24 + e.2 * 2 ^ 20) } else u)))
      ∧ (wordErr src o true u = none →
          (needsPerform o = false → exec i s = .next (respond src 0 0 (0, 0) (openResets [(0, o)] (applyOp src o [] {} u))))
          ∧ (needsPerform o = true → exec i s = .next { u with
              cmd := { u.cmd with jobs := u.cmd.jobs ++ [{ src := src, tag := 0, ops := [(0, capture o u)] }] }
              mic := { u.mic with arrayLost := u.mic.arrayLost && calRunning 5 none u } }))))
  ∧ (∀ (o : StwOp) (t : State), (∀ b u, o ≠ .breset b u) →
      openResets [(0, o)] t = { t with lane.injecting := false })
  ∧ (∀ (src : Source) (b : BitVec 6) (f : BitVec 12) (w : Word) (r : Fin 32) (s : State), src ≠ .steward → Accepts src s →
      exec (.cfgl src b f w (some r)) s = .next (respond src 0 0 (eBadop 2) (takenIn src 1 s)))
  ∧ ∀ (src : Source) (u : BitVec 16) (s : State), exec (.breset src 0x03 u) s = .next s

/-- R175, R238, Table 08.9: the response of a block goes to its source: the host's and USB's response words with events
0x408 and 0x409, the ring's also as a message with event 0x40A; a word of the steward's own program puts CODE and SUB into
v31. Nothing else changes, and the lower fields read 0 while BUSY is set. -/
def Obligations.Responses : Prop :=
  ∀ (tag : BitVec 8) (idx : Nat) (e : Nat × Nat) (s : State),
    let m : MbxState := { valid := true, tag := tag, index := if e.1 = 0 then 0 else idx, sub := e.2, code := e.1 }
    respond .host tag idx e s = raise 0x408 { s with win := { s.win with mbx := { m with dbLost := s.win.mbx.dbLost } } }
    ∧ respond .usb tag idx e s = raise 0x409 { s with cmd := { s.cmd with usbMbx := m } }
    ∧ (s.ring.blkFrom = none → respond .ring tag idx e s = raise 0x40A { s with cmd := { s.cmd with ringMbx := m } })
    ∧ (∀ a q, s.ring.blkFrom = some (a, q) → ∃ t, respond .ring tag idx e s = raise 0x40A t
        ∧ t.cmd = { s.cmd with ringMbx := m } ∧ t.ring.blkFrom = none
        ∧ t.ring.outbox = s.ring.outbox ++ [{
            typ := 7, src := if s.ring.role then 0 else s.ring.addr, dst := a, seq := q, data := mbxWord m }]
        ∧ t = { s with cmd := t.cmd, ring := t.ring })
    ∧ respond .steward tag idx e s = { s with
        stw := { s.stw with regs := put 31 (BitVec.ofNat 32 (e.2 * 256 + e.1)) s.stw.regs } }
    ∧ (∀ x : MbxState, x.busy = true → (mbxWord x).toNat % 2 ^ 24 = 0)
    ∧ (idx < 16 → e.2 < 16 → e.1 < 256 → (mbxWord m).toNat
        = 2 ^ 30 + tag.toNat * 2 ^ 16 + (if e.1 = 0 then 0 else idx) * 2 ^ 12 + e.2 * 2 ^ 8 + e.1)

/-- R19, R240, R241, Table 01.4: CFG and CFGL of a field that has no effect at its commit but its value (all of PWR but the
sag thresholds' disable, of MEM, STRM, BRINE, MIC, WAKE, AADC, PIPE, TONE and EVT): the value rides the next tick where
its table says so and is in force at once elsewhere; nothing else changes but the response. -/
def Obligations.FieldWrites : Prop :=
  ∀ (src : Source) (blk : BitVec 6) (fid : BitVec 12) (v : Byte) (w : Word) (r : Fin 32) (s : State),
    blk.toNat ∈ [0x02, 0x09, 0x0A, 0x0B, 0x18, 0x19, 0x20, 0x21, 0x29, 0x3F] → ¬ (blk = 0x02 ∧ fid = 0x015) →
    let key := blk.toNat * 0x1000 + fid.toNat
    let word := fun x : Nat => StwOp.cfg blk.toNat fid.toNat x
    let puts := fun (x : Nat) (t : State) =>
      if fieldTick key then { t with flow := t.flow ++ [.field key x] }
      else { t with cfg := smSet (fieldReset key) key x t.cfg }
    (Passes src (word v.toNat) 0 s → Commits (.cfg src blk fid v) src 0 s (puts v.toNat))
    ∧ (Passes src (word w.toNat) 1 s → Commits (.cfgl src blk fid w none) src 1 s (puts w.toNat))
    ∧ (Passes .steward (word (s.stw.regs.vr r).toNat) 0 s →
        Commits (.cfgl .steward blk fid w (some r)) .steward 0 s (puts (s.stw.regs.vr r).toNat))

/-- R177, R242: CLAIM adds the source's claim once, RELEASE removes it, and nothing else changes but the response; a
CLAIM beyond 64 of one source fails with NORES, one of another source's unit with CONFLICT, a RELEASE of a claim that is
not held with STATE. -/
def Obligations.ClaimsAndReleases : Prop :=
  ∀ (src : Source) (b : BitVec 6) (u : BitVec 16) (s : State),
    let c := (src, b.toNat, u.toNat)
    let t := takenIn src 0 s
    let valid := blockListed b.toNat = true ∧ claimUnitOk b.toNat u.toNat = true ∧ src ≠ .steward ∧ Accepts src s
    let mine := claimed src (.claim b.toNat u.toNat) t = false ∧ heldBy src (.claim b.toNat u.toNat) t = false
    let count := s.cmd.claims.countP (fun x => x.1 == src)
    (valid → mine → c ∈ s.cmd.claims → Commits (.claim src b u) src 0 s (fun x => x))
    ∧ (valid → mine → c ∉ s.cmd.claims → count < 64 →
        Commits (.claim src b u) src 0 s (fun x => { x with cmd := { x.cmd with claims := x.cmd.claims ++ [c] } }))
    ∧ (valid → mine → c ∉ s.cmd.claims → 64 ≤ count → exec (.claim src b u) s = .next (respond src 0 0 (6, 2) t))
    ∧ (valid → claimed src (.claim b.toNat u.toNat) t = true → exec (.claim src b u) s = .next (respond src 0 0 (7, 0) t))
    ∧ (valid → mine → c ∈ s.cmd.claims → Commits (.release src b u) src 0 s
        (fun x => { x with cmd := { x.cmd with claims := x.cmd.claims.filter (fun y => y != c) } }))
    ∧ (valid → mine → c ∉ s.cmd.claims → exec (.release src b u) s = .next (respond src 0 0 (5, 8) t))

/-- R243 to R246, R274: CSTART commits, for the next tick, the context's start with the entry of the verified region at its code
base and the record's window and argument, where the record is read from a bank that is not ON after the error that this
raises; CSTOP its stop, or its release, unless it stands STOPPED already; a ROUTE its
change, or nothing where the route stands already. Nothing else changes but the response. -/
def Obligations.ContextsAndRoutes : Prop :=
  ∀ (src : Source) (n : Fin 1024) (a : Word) (k : BitVec 4) (e : BitVec 10) (s : State),
    let later := fun (c : FlowChange) (t : State) => { t with flow := t.flow ++ [c] }
    let x := smGet {} n.val (pendStreams s)
    let w := fun j => srcWord (a.toNat + 4 * j) (takenIn src 1 s)
    let ep := (k.toNat, e.toNat)
    (Passes src (.cstart n a.toNat) 1 s → ∃ r ∈ s.lane.regions, r.base = (w 0).toNat
      ∧ Commits (.cstart src n a) src 1 s fun t =>
          later (.cstart n r.entry r.base r.words (w 1).toNat (w 2).toNat (w 3)) (noteSource a.toNat t))
    ∧ (Passes src (.cstop n false) 0 s → (pendCtx n s).st ≠ .stopped →
        Commits (.cstop src n) src 0 s (later (.cstop n false)))
    ∧ (Passes src (.cstop n false) 0 s → (pendCtx n s).st = .stopped → Commits (.cstop src n) src 0 s (fun t => t))
    ∧ (Passes src (.cstop n true) 0 s → Commits (.cstopRelease src n) src 0 s (later (.cstop n true)))
    ∧ (Passes src (.route .writer k.toNat e.toNat n) 0 s → x.writer ≠ some ep →
        Commits (.routeWriter src k e n) src 0 s (later (.route .writer k.toNat e.toNat n)))
    ∧ (Passes src (.route .writer k.toNat e.toNat n) 0 s → x.writer = some ep →
        Commits (.routeWriter src k e n) src 0 s (fun t => t))
    ∧ (Passes src (.route .reader k.toNat e.toNat n) 0 s → ep ∉ x.readers →
        Commits (.routeReader src k e n) src 0 s (later (.route .reader k.toNat e.toNat n)))
    ∧ (Passes src (.route .reader k.toNat e.toNat n) 0 s → ep ∈ x.readers →
        Commits (.routeReader src k e n) src 0 s (fun t => t))
    ∧ (Passes src (.route .unread k.toNat e.toNat n) 0 s →
        Commits (.routeUnread src k e n) src 0 s (later (.route .unread k.toNat e.toNat n)))
    ∧ (Passes src (.route .free 0 0 n) 0 s → x.writer ≠ none ∨ x.readers ≠ [] →
        Commits (.routeFree src n) src 0 s (later (.route .free 0 0 n)))
    ∧ (Passes src (.route .free 0 0 n) 0 s → x.writer = none → x.readers = [] →
        Commits (.routeFree src n) src 0 s (fun t => t))

/-- R247, R273, R274: BANKPWR sets the state of one quarter of a lane bank, or of a whole other bank, which then changes
state; leaving or entering OFF its bytes read 0, whatever Brine or the port engine left there, and no other byte changes; leaving ON, code regions that touch it lose
their verification. A quarter that has the state already does not change. -/
def Statements.BankStateWords : Prop :=
  ∀ (src : Source) (u : BitVec 5) (m : BitVec 4) (q : Nat) (st : BankPower) (s : State),
    let lane := decide (u.toNat ≤ 16)
    Passes src (.bankpwr u.toNat m.toNat st) 0 s →
    (if lane then q < 4 ∧ m.toNat = 2 ^ q else q = 0) →
    let old := smGet .on (4 * u.toNat + q) s.mem.power
    let lo := (quarterRange u.toNat q).1
    let hi := (quarterRange u.toNat q).2
    (old = st → Commits (.bankpwr src u m st) src 0 s (fun t => t))
    ∧ (old ≠ st → ∃ f : State → State, Commits (.bankpwr src u m st) src 0 s f ∧ ∀ t, t.mem = s.mem →
        (f t).mem.power = smSet .on (4 * u.toNat + q) st s.mem.power
        ∧ (f t).mem.transit.getLsbD (4 * u.toNat + q) = true
        ∧ (∀ a, a < lo ∨ hi ≤ a → byteAt a (f t) = byteAt a s)
        ∧ (∀ a, lo ≤ a → a < hi → byteAt a (f t) = if old = .off ∨ st = .off then 0 else byteAt a s)
        ∧ (∀ a, lo ≤ a → a < hi → old = .off ∨ st = .off → portOccupied a 4 t = false → ramOpen a (f t) = false)
        ∧ (f t).lane.regions = (if old = .on then
            t.lane.regions.filter fun r => !(r.base < hi && lo < r.base + 4 * r.words) else t.lane.regions)
        ∧ (f t).cfg = t.cfg ∧ (f t).flow = t.flow ∧ (f t).strm = t.strm ∧ (f t).lane.ctx = t.lane.ctx
        ∧ (f t).evt = t.evt)

/-- R111, R112, R113, R118, R145, R248, Table 05.9: BRESET of a block returns its fields to their reset values, drops their
changes that wait, and returns its own state to reset, keeping what Table 05.9 lets it keep; of a lane it stops the lane's
contexts; a BRESET naming RST starts the quiet stop of a soft reset. From its commit on a wrapped reset may last; it answers
an aperture write that waits for one of its registers with an error and event 0x4F2. Nothing else changes but the
response. -/
def Statements.BlockResets : Prop :=
  ∀ (src : Source) (u : BitVec 16) (s : State),
    let done := fun (b : Nat) (t : State) => { t with
      rst := { t.rst with resets := t.rst.resets.filter fun r => !(r.1 == b && r.2.1 == u.toNat) } }
    let commits := fun (i : Instr) (b : Nat) (f : State → State) => exec i s = .next (respond src 0 0 (0, 0)
      (openReset b u.toNat { f (done b (takenIn src 0 s)) with lane.injecting := false }))
    let plain := fun (b : Nat) (t : State) => { t with
      cfg := t.cfg.filter fun p => !(b * 0x1000 ≤ p.1 && p.1 < b * 0x1000 + 0x1000)
      flow := t.flow.filter fun c => match c with | .field k _ => k / 0x1000 != b | _ => true }
    let resets := fun (b : BitVec 6) (f : State → State) =>
      Passes src (.breset b.toNat u.toNat) 0 s → commits (.breset src b u) b.toNat fun t => f (plain b.toNat t)
    let silent := fun (k : Nat) (t : State) => { t with out := { t.out with
      vol := vset (vset t.out.vol k 0) (k + 1) 0, frame := vset (vset t.out.frame k []) (k + 1) [] } }
    let mutes := fun (g : Nat) =>
      if s.sup.modeCur = .run ∧ fld 0x18 0x002 s ≠ fieldReset 0x18002 ∧ s.mic.pdmClk.getLsbD g = true then pdmGroup g else 0
    (∀ b t, wrapped b = false → openReset b u.toNat t = t)
    ∧ (∀ b t, wrapped b = true →
      let r := { t with rst := { t.rst with resets := t.rst.resets ++ [(b, u.toNat, false)] } }
      (t.twh.aptWrite = none → openReset b u.toNat t = r)
      ∧ ∀ a w be, t.twh.aptWrite = some (a, w, be) →
        (isReg a.toNat = true → regBlock a.toNat = b → b ≠ 0x08 → ∃ v, openReset b u.toNat t = v
          ∧ v.twh = { t.twh with aptWrite := none, aptErr := true } ∧ v.evt.latch.getLsbD 0x4F2 = true
          ∧ v = { r with twh := v.twh, rst := v.rst, evt := v.evt })
        ∧ (isReg a.toNat = false ∨ regBlock a.toNat ≠ b ∨ b = 0x08 → openReset b u.toNat t = r))
    ∧ resets 0x18 (fun t => { t with mic := {
        pdmClk := t.mic.pdmClk, stuckNow := t.mic.stuckNow, muted := t.mic.muted ||| mutes 0 ||| mutes 1
        arrayLost := t.mic.arrayLost } })
    ∧ resets 0x20 (fun t => { t with aadc := {} })
    ∧ resets 0x21 (fun t => { t with pipe := {} })
    ∧ resets 0x28 (fun t => silent 2 { t with dac := {} })
    ∧ resets 0x29 (fun t => { t with tone := Vector.replicate 8 {} })
    ∧ resets 0x2A (fun t => silent 0 { t with hp := {} })
    ∧ resets 0x30 (fun t => { t with spk := {}, out := { t.out with vol := vset (vset t.out.vol 4 0) 5 0 } })
    ∧ resets 0x31 (fun t => { t with boost := {} })
    ∧ resets 0x32 (fun t => { t with glint := Vector.replicate 2 {} })
    ∧ resets 0x38 (fun t => { t with halo := {} })
    ∧ resets 0x39 (fun t => { t with gpio := { t.gpio with edgeSeen := 0, btn := 0, btnOwed := 0 } })
    ∧ (∀ n : Fin 4, resets (0x10 + BitVec.ofNat 6 n.val) (fun t => { t with
        sp := vset t.sp n.val {}, clk := { t.clk with ports := vset t.clk.ports n.val {} } }))
    ∧ (∀ n : Fin 2, resets (0x22 + BitVec.ofNat 6 n.val) (fun t =>
        let x := sarAt n.val t
        { t with sar := vset t.sar n.val { sysTemp := x.sysTemp, sysJack := x.sysJack, sysTurn := x.sysTurn } }))
    ∧ (Passes src (.breset 0x08 u.toNat) 0 s → ∃ f : State → State, commits (.breset src 0x08 u) 0x08 f
        ∧ ∀ t, smWf (fun _ => {}) t.lane.ctx = true →
          (∀ n, laneOf n ≠ u.toNat → ctxAt n (f t) = ctxAt n t)
          ∧ (∀ n, laneOf n = u.toNat → (ctxAt n t).st = .running → (ctxAt n (f t)).st = .stopped)
          ∧ (∀ n, laneOf n = u.toNat → (ctxAt n t).st ≠ .running → (ctxAt n (f t)).st = (ctxAt n t).st)
          ∧ (f t).mem = t.mem ∧ (f t).cfg = t.cfg)
    ∧ (Passes src (.breset 0x03 u.toNat) 0 s → commits (.bresetRst src u) 0x03 (quietStop .soft))

/-! ### Life cycle, blocks and perform phases -/

/-- R120, R121, R123, R124, R249, R505, R506, R507: WRITE_TOKEN stores the hash of the token, FUSE_WRITE one word of the fuse
map, VOID starts the quiet stop and SEAL its perform phase, each in the states of Table 06.3 and from its sources alone.
The quiet stop drops the blocks that perform and leaves memory, lanes, streams and fields as they are; its reset writes the
new state with the erasure of its transition, with cause LCY, or SOFT for a BRESET of RST. In FAB, while a test image runs,
the transition to DEVELOP resets with cause LCY (Table 06.2); that this command stands for Vastalek's test is the model's
choice (assumption log 42). -/
def Obligations.LifeCycleRequests : Prop :=
  (∀ (src : Source) (tok : BitVec 64) (idx : BitVec 12) (v : Word) (s : State),
    let fuse := StwOp.fuseWrite idx.toNat v
    (Passes src (.writeToken tok) 2 s → s.lcy.shadow = .sealed ∧ Commits (.lcyreqWriteToken src tok) src 2 s
        (fun t => { t with lcy := { t.lcy with tokenHash := some (sha256 (beBytes64 tok)) } }))
    ∧ (Passes src fuse 1 s → (s.lcy.shadow = .fab ∨ s.lcy.shadow = .develop)
        ∧ (idx.toNat ≤ 0x02E → Commits (.lcyreqFuseWrite src idx v) src 1 s
            (fun t => { t with lcy := { t.lcy with 
              pinFuse := smSet 0 idx.toNat (v.setWidth 7 &&& 0x77) t.lcy.pinFuse
              pinWritten := true } }))
        ∧ (0x02E < idx.toNat → Commits (.lcyreqFuseWrite src idx v) src 1 s
            (fun t => { t with lcy := { t.lcy with
              keyWords := smSet 0 idx.toNat v t.lcy.keyWords
              keyMask := t.lcy.keyMask ||| BitVec.ofNat 16 (2 ^ (idx.toNat - 0x040)) } })))
    ∧ (Passes src (.voidReq v) 1 s → v = 0x564F4944 ∧ s.lcy.shadow ≠ .void
        ∧ Commits (.lcyreqVoid src v) src 1 s (quietStop .toVoid))
    ∧ (Passes src .seal 0 s → s.lcy.shadow = .develop ∧ s.lcy.keyMask = 0xFFFF
        ∧ ∃ t, exec (.lcyreqSeal src) s = .next t ∧ t.cmd.jobs = s.cmd.jobs ++ [{ src := src, ops := [(0, .seal)] }]
          ∧ t.lcy = s.lcy ∧ t.mem = s.mem)
    ∧ (src = .ring ∨ (src = .steward ∧ s.lcy.shadow ≠ .fab) → Accepts src s →
        exec (.lcyreqSeal src) s = .next (respond src 0 0 (0xA, 2) (takenIn src 0 s))
        ∧ exec (.lcyreqWriteToken src tok) s = .next (respond src 0 0 (0xA, 2) (takenIn src 2 s))))
  ∧ (∀ (k : QuietKind) (s : State),
    let t := quietStop k s
    t.lcy = { s.lcy with quiet := some (s.lcy.quiet.getD k) }
    ∧ t.cmd = { s.cmd with jobs := s.cmd.jobs.filter fun j => !j.copies.isEmpty }
    ∧ (∀ x, x < 2 → (spkAt x s).state = .starting ∨ (spkAt x s).state = .running → (spkAt x t).state = .stopping)
    ∧ (∀ x, x < 2 → (spkAt x s).state = .waitBoost ∨ (spkAt x s).state = .retryWait ∨ (spkAt x s).state = .muted →
        (spkAt x t).state = .off)
    ∧ (s.hp.state = .starting ∨ s.hp.state = .on → t.hp.state = .stopping)
    ∧ (s.ring.state = .trained → t.ring = { s.ring with leaving := true })
    ∧ (∀ c, c < 2 → (glAt c s).state = .starting ∨ (glAt c s).state = .running → (glAt c t).state = .stopping)
    ∧ t.mem = s.mem ∧ t.lane = s.lane ∧ t.strm = s.strm ∧ t.cfg = s.cfg ∧ t.flow = s.flow ∧ t.evt = s.evt)
  ∧ ∀ s : State,
    let erases := fun (l : Life) => ∃ t, exec .transitionReset s = .next t
      ∧ t.lcy = { s.lcy with
          code := l, keyWords := [], keyMask := 0, keyLoad := [], keyLoadMask := 0, tokenHash := none, quiet := none
          eraseResumed := false }
      ∧ (∀ a, 0x2000000 ≤ a → a < 0x2100000 → byteAt a t = 0)
      ∧ (∀ a, a < 0x2000000 ∨ 0x2100000 ≤ a → byteAt a t = byteAt a s)
      ∧ t.mem.glQueue = [] ∧ t.rst.phase = .held ∧ t.rst.capCause = .lcy
    let tests := live s = true ∧ s.lcy.shadow = .fab ∧ s.stw.test = true
    (s.lcy.quiet = none → ¬ tests → exec .transitionReset s = .next s)
    ∧ (s.lcy.quiet = none → tests →
        exec .transitionReset s = .next (assertReset .lcy { s with lcy := { s.lcy with code := .develop } }))
    ∧ (s.lcy.quiet = some .soft → exec .transitionReset s = .next (assertReset .soft s))
    ∧ (s.lcy.quiet = some .seal →
        exec .transitionReset s = .next (assertReset .lcy { s with lcy := { s.lcy with code := .sealed } }))
    ∧ (s.lcy.quiet = some .toReturn → erases .ret) ∧ (s.lcy.quiet = some .toVoid → erases .void)

/-- R168, R171, R172, R173, R208, R274: the steward takes the mailboxes in rotation; a malformed header is answered BADARG; the words
are validated in order, and the first failure alone is answered, the block having no effect; without a perform phase the
effects of all its words stand together with the response DONE; else the block enters its perform phase. A source in memory
that validation reads in a bank that is not ON is noted, and a LOAD that is rejected stands in LANE.LOAD_STATUS, which is
the model's reading (assumption log 45). -/
def Obligations.BlocksTakenIn : Prop :=
  ∀ s : State,
    let usb := s.cmd.usbBlk.map fun ws => (MbxSource.usb, ws)
    let ring := s.cmd.ringBlk.map fun ws => (MbxSource.ring, ws)
    let host := s.cmd.hostBlk.map fun ws => (MbxSource.host, ws)
    (s.cmd.last = .host → nextBlock s = (usb.or ring).or host)
    ∧ (s.cmd.last = .usb → nextBlock s = (ring.or host).or usb)
    ∧ (s.cmd.last = .ring → nextBlock s = (host.or usb).or ring)
    ∧ (serves s = false ∨ nextBlock s = none → exec .stewardTakeBlock s = .next s)
    ∧ ∀ (m : MbxSource) (ws : List Word), serves s = true → nextBlock s = some (m, ws) →
      let src := sourceOf m
      let h := (ws.headD 0).toNat
      let tag := BitVec.ofNat 8 (h / 2 ^ 8)
      let u := settleResets { emptyMailbox m s with dbg := { s.dbg with step := false } }
      let wellFormed := h / 2 ^ 16 = 0xB100 ∧ 1 ≤ h % 2 ^ 8 ∧ h % 2 ^ 8 ≤ 15
      let body := (ws.drop 1).take (h % 2 ^ 8)
      let words := blockOps 16 body 0
      let v := noteBody (reached (validateFrom 16 src body 0 u)) words u
      let failed := fun (load : Bool) (e : Err) =>
        if load then { v with lane.loadStatus := BitVec.ofNat 32 (e.1 * 2 ^ 24 + e.2 * 2 ^ 20) } else v
      ((∀ p ∈ words, noteWord p.2 u = u) → v = u)
      ∧ (¬ wellFormed → exec .stewardTakeBlock s = .next (respond src tag 0 (2, 0xF) u))
      ∧ (wellFormed →
        (∀ k e, validateFrom 16 src body 0 v = .error (k, e) →
          exec .stewardTakeBlock s = .next (respond src tag k e (failed (loadsAt body k) e)))
        ∧ (∀ ops t, validateFrom 16 src body 0 v = .ok (ops, t) → ops.any (fun p => needsPerform p.2) = false →
          exec .stewardTakeBlock s = .next (respond src tag 0 (0, 0) (openResets ops t)))
        ∧ (∀ ops t, validateFrom 16 src body 0 v = .ok (ops, t) → ops.any (fun p => needsPerform p.2) = true →
          exec .stewardTakeBlock s = .next { v with
            cmd := { v.cmd with jobs := v.cmd.jobs ++ [{ src := src, tag := tag, ops := ops }] }
            mic := { v.mic with arrayLost := v.mic.arrayLost && calRunning 5 none v } })
        ∧ (∀ w ws' o n e, body = w :: ws' → blockWord w ws' = .ok (o, n) →
            wordErr src o (decide (ws'.length + 1 ≤ n)) v = some e →
            exec .stewardTakeBlock s = .next (respond src tag 0 e (failed (isLoad o) e))))

/-- R173, R174, R204, R250: a LOAD or CALRUN word that passes every check enters its perform phase; LOAD keeps the code
length, entry and data minimum that its header holds at that moment. -/
def Statements.PerformEntry : Prop :=
  ∀ (src : Source) (s : State),
    let begins := fun (i : Instr) (o o' : StwOp) (lits : Nat) => Passes src o lits s →
      let t := heard src o lits s
      exec i s = .next { t with
        cmd := { t.cmd with jobs := t.cmd.jobs ++ [{ src := src, tag := 0, ops := [(0, o')] }] }
        mic := { t.mic with arrayLost := t.mic.arrayLost && calRunning 5 none t } }
    (∀ (dst : BitVec 20) (a : Word),
      let h := fun k => (srcWord (a.toNat + 4 * k) (takenIn src 1 s)).toNat
      begins (.load src dst a) (.load (4 * dst.toNat) a.toNat) (.loadAt (4 * dst.toNat) a.toNat (h 2) (h 3) (h 4)) 1)
    ∧ ∀ (f : Bool) (u : BitVec 16),
      let run := fun k => StwOp.calrun k f u.toNat
      begins (.calrunSarCal src f u) (run 1) (run 1) 0
      ∧ begins (.calrunPipeAvg src f u) (run 2) (run 2) 0
      ∧ begins (.calrunAadcOffset src f u) (run 3) (run 3) 0
      ∧ begins (.calrunAadcSelftest src f u) (run 4) (run 4) 0
      ∧ begins (.calrunMicArray src f u) (run 5) (run 5) 0

/-- R173, R174, R202, R204, R208, R250, R382, R383, R403, R407: what the end of a perform phase of one word does: a failure is
answered and stores nothing but what the run records; a word whose condition fails at commit likewise; SAR_CAL stores
offset and gain, PIPE_AVG clears the average, AADC_OFFSET commits the correction, AADC_SELFTEST stores its result; a LOAD
writes the code, marks it as a verified region, clears LANE.LOAD_STATUS and answers DONE only once its copy is complete;
longer than its limit a phase ends with TIMEOUT. A scan that the run held back may begin. While the steward is halted by a
fault no phase ends. -/
def Statements.PerformPhases : Prop :=
  ∀ (src : Source) (tag : BitVec 8) (k : Nat) (o : StwOp) (r : PerfRes) (rest : List Job) (s : State),
    let j : Job := { src := src, tag := tag, ops := [(k, o)] }
    s.cmd.jobs = j :: rest → r.idx = k →
    let d0 := { s with cmd := { s.cmd with jobs := rest } }
    let d := settleResets d0
    let p := perfRecord o r d
    let ends := fun (t : State) => exec (.performDone src [r]) s = .next (sarsNext t)
    let w := fun (t : State) => { t with lane.injecting := false }
    (s.stw.faulted = true → exec (.performDone src [r]) s = .next s ∧ ∀ i, exec (.performTimeout src i) s = .next s)
    ∧ (s.stw.faulted = false →
    (∀ e, perfErr o r d = some e → ends (respond src tag k e p))
    ∧ (∀ e, perfErr o r d = none → stateErr src o p = some e → ends (respond src tag k e
        (if isLoad o then { p with lane.loadStatus := BitVec.ofNat 32 (e.1 * 2 ^ 24 + e.2 * 2 ^ 20) } else p)))
    ∧ (r.timeout = true → perfErr o r d = some (9, 1))
    ∧ (∀ i : Fin 15, i.val = k → needsPerform o = true → exec (.performTimeout src i) s
        = .next (sarsNext (respond src tag k (9, 1) (perfRecord o { idx := k, timeout := true } d0))))
    ∧ (perfErr o r d = none → stateErr src o p = none →
      (∀ f u, o = .calrun 1 f u → p = d ∧ ends (respond src tag 0 (0, 0)
          (w (setFld (0x22 + u) 0x031 ((max (-2048) (min 2047 (r.vals.getD 1 0))) % 2 ^ 16).toNat
            (setFld (0x22 + u) 0x030 ((max (-64) (min 63 (r.vals.getD 0 0))) % 2 ^ 8).toNat d)))))
      ∧ (∀ f u, o = .calrun 2 f u → ends (respond src tag 0 (0, 0)
          (w { d with pipe := { d.pipe with converged := setBit d.pipe.converged u false } })))
      ∧ (∀ f u, o = .calrun 3 f u → u < 4 → ends (respond src tag 0 (0, 0)
          (w { d with
            aadc := { d.aadc with cmOk := setBit d.aadc.cmOk u true }
            flow := d.flow ++ [.field (0x20010 + u) ((max (-8192) (min 8191 (r.vals.getD 0 0))) % 2 ^ 16).toNat] })))
      ∧ (∀ f u, o = .calrun 4 f u → p = d ∧ ends (respond src tag 0 (0, 0)
          (w { d with aadc := { d.aadc with
              testCode := vset d.aadc.testCode u 0, testSub := vset d.aadc.testSub u 0
              testLevel := vset d.aadc.testLevel u (BitVec.ofInt 8 (r.vals.getD 0 0))
              testThdn := vset d.aadc.testThdn u (BitVec.ofInt 8 (r.vals.getD 1 0)) } })))
      ∧ (∀ f u, o = .calrun 5 f u → ∃ t, ends (respond src tag 0 (0, 0) t) ∧ t.mic.calCode = 0 ∧ t.mic.calCh = r.ch
          ∧ t.mic.calValue = r.value ∧ t.mem = s.mem ∧ t.cfg = s.cfg)
      ∧ (o = .seal → ends (respond src tag 0 (0, 0) (w (quietStop .seal p))))
      ∧ (∀ dst a n e m, o = .loadAt dst a n e m → s.memWf = true → ∃ t, ends t
          ∧ (∀ i, i < n → wordAt (dst + 4 * i) t = srcWord (a + 32 + 4 * i) p) ∧ t.lane.loadStatus = 0
          ∧ (∀ x, x < dst ∨ dst + 4 * n ≤ x → byteAt x t = byteAt x s)
          ∧ t.lane.regions = { base := dst, words := n, entry := e, dataMin := m }
              :: s.lane.regions.filter fun g => !(g.base < dst + 4 * n && dst < g.base + 4 * g.words)
          ∧ t.cmd.jobs = rest ++ [{ j with ops := [], copies := [(dst, a + 32, 4 * n)] }]
          ∧ t.evt = p.evt ∧ t.win = s.win)))
    ∧ (∀ c cs, let q := { j with ops := [], copies := c :: cs }
        exec (.loadCopyDone src) { s with cmd := { s.cmd with jobs := q :: rest } } = .next (respond src tag 0 (0, 0) d0))

/-- Table 07.3, Table 08.6, R274, R116, R150, R152, R264, R336, R354, R362, R392, R393, R411, R414, R430, R454, R477, R485, R486,
R490: what each action field does at its commit, beside the response. -/
def Obligations.ActionFields : Prop :=
  ∀ (src : Source) (v : Byte) (w : Word) (n x : Fin 2) (p : Fin 4) (s : State),
    let acts := fun (i : Instr) (blk fid val : Nat) (f : State → State) =>
      let lits := if val < 256 then 0 else 1
      Passes src (.cfg blk fid val) lits s → Commits i src lits s f
    acts (.wdogKick src v) 0x03 0x002 v.toNat (fun t => t)
    ∧ acts (.twcStart src) 0x06 0x009 1 (fun t => { t with twc := { t.twc with
        phase := if t.twc.needClear then .busClear else .waitBus, needClear := false, clearOnly := false
        clearEnd := .none, result := .none, bytes := 0, arbLosses := 0, sent := []
        retries := fld 0x06 0x007 t } })
    ∧ acts (.twcClear src) 0x06 0x00A 1 (fun t => { t with twc := { t.twc with
        phase := .busClear, needClear := false, clearOnly := true, clearEnd := .none } })
    ∧ acts (.laneFaultInject src v) 0x08 0x002 v.toNat (fun t => laneFault (v.toNat - 1) .injected 0 none t.lane.injecting t)
    ∧ acts (.usbWakeReq src) 0x14 0x014 1 (fun t => { t with usb := { t.usb with
        software := true, sinceFormed := t.usb.sinceFormed ||| 0x80 } })
    ∧ acts (.ringCall src) 0x15 0x004 1 (fun t => { t with ring := { t.ring with callLeft := 48 } })
    ∧ acts (.ringSend src w) 0x15 0x005 w.toNat (sendRecord w.toNat)
    ∧ acts (.vaultRearm src) 0x1A 0x001 1 (fun t =>
        if t.vault.exporting.isSome then { t with vault := { t.vault with resealDue := true } }
        else raise 0x483 { zeroRange 0x1C00000 0x1C40000 t with vault := {
          freezeFrame := t.vault.freezeFrame, wakeIndex := t.vault.wakeIndex, lastIndex := t.vault.lastIndex } })
    ∧ acts (.vaultExport src w) 0x1A 0x003 w.toNat (fun t => { t with vault := { t.vault with exporting := some w.toNat } })
    ∧ acts (.sarTrigger src n) (0x22 + n.val) 0x006 1
        (fun t => sarNext n (setSar n { sarAt n t with trig := true } t))
    ∧ acts (.sarUrgent src n v) (0x22 + n.val) 0x007 v.toNat
        (fun t => setSar n { sarAt n t with urgent := some (Fin.ofNat 16 v.toNat) } t)
    ∧ acts (.rdacPush src x w) 0x28 (0x014 + x.val) w.toNat (fun t =>
        if fld 0x28 (0x010 + x.val) t ≠ 1 then t
        else if 32 ≤ (vget t.dac.q x []).length then { t with dac := { t.dac with ovf := setBit t.dac.ovf x true } }
        else { t with dac := { t.dac with q := vset t.dac.q x (vget t.dac.q x [] ++ [BitVec.ofNat 12 w.toNat]) } })
    ∧ acts (.spkRestart src x) 0x30 (0x018 + x.val) 1 (fun t => spkBegin x (setSpk x { spkAt x t with retries := 0 } t))
    ∧ acts (.glintCoefLoad src x w) 0x32 (0x014 + x.val) w.toNat (fun t =>
        let b := srcBytes w.toNat 32 t
        let h : Vector (BitVec 16) 64 := Vector.ofFn fun k : Fin 64 => b.getD (2 * k.val + 1) 0 ++ b.getD (2 * k.val) 0
        setGl x { glAt x t with h := h } (noteSource w.toNat t))
    ∧ acts (.haloStart src) 0x38 0x007 1 (fun t => { t with halo := { t.halo with startDue := true } })
    ∧ acts (.haloLoad src p w) 0x38 (0x010 + p.val) w.toNat (fun t =>
        haloWritePage p (srcBytes w.toNat 24 t) (noteSource w.toNat t))
    ∧ (∀ t, addrOn w.toNat t = true → noteSource w.toNat t = t)
    ∧ (∀ t, addrOn w.toNat t = false → noteSource w.toNat t
        = raise 0x431 { t with mem := { t.mem with errAddr := BitVec.ofNat 32 w.toNat } })
    ∧ acts (.gpioSet src w) 0x39 0x041 w.toNat (fun t => setFld 0x39 0x040 (fld 0x39 0x040 t ||| w.toNat) t)
    ∧ acts (.gpioClr src w) 0x39 0x042 w.toNat (fun t => setFld 0x39 0x040 (fld 0x39 0x040 t &&& (0xFFFF - w.toNat)) t)
    ∧ (∀ t, (wordAt w.toNat t).toNat % 256 ≠ 1 →
        let d := wordAt w.toNat t
        let u := sendRecord w.toNat t
        u.ring.sendBusy = true ∧ u.ring.sendValid = false ∧ u.ring.seq = t.ring.seq + 1
          ∧ u = { t with ring := u.ring }
          ∧ ∃ q, u.ring.send = some q ∧ q.dst = BitVec.ofNat 7 (d.toNat / 2 ^ 8) ∧ q.addr = wordAt (w.toNat + 4) t
            ∧ q.data = wordAt (w.toNat + 8) t ∧ q.seq = u.ring.seq ∧ q.tries = 1 ∧ q.acked = false)

/-! ### The frame, power modes -/

/-- R14, R16, R19, R20, R89, R114, R208: a tick in RUN with no mode requested: FRAMECNT counts, every committed change is
applied and none waits, LAST_APPLY and events 0x401 and 0x402 mark what was applied, the cycle counts of the frame that
closes are kept and start again, and the first tick after handover raises BOOT_DONE. Outside RUN, and while a mode entry
waits for the Glacier store, there is no tick. With a mode requested no context starts, and the mode is entered, with event
0x4D0, at once or after the queued Glacier writes (R58, R284). -/
def Statements.FrameTick : Prop :=
  ∀ (inp : TickIn) (s : State),
    (ticking s = false ∨ s.sup.drainWait ≠ none → exec (.tick inp) s = .next s)
    ∧ (ticking s = true → s.sup.drainWait = none → pend 0x02 0x001 s = 0 → smWf fieldReset s.cfg = true →
      let flow := flowPending s = true ∨ ∃ f ∈ s.lane.fails, f.spare = true
      let timing := timingPending s = true
      ∃ t, exec (.tick inp) s = .next t
      ∧ t.clk.frameCnt = s.clk.frameCnt + 1 ∧ t.flow = [] ∧ t.sup.modeCur = .run
      ∧ (flow ∨ timing → t.clk.lastApply = s.clk.frameCnt + 1)
      ∧ (¬ flow → ¬ timing → t.clk.lastApply = s.clk.lastApply)
      ∧ (flow → t.evt.latch.getLsbD 0x401 = true) ∧ (timing → t.evt.latch.getLsbD 0x402 = true)
      ∧ t.lane.cycUsed = s.lane.usedNow ∧ t.lane.usedNow = Vector.replicate 16 0 ∧ t.lane.fails = []
      ∧ (s.rst.bootDone = false → t.evt.latch.getLsbD 0x4F0 = true) ∧ t.rst.bootDone = true)
    ∧ (ticking s = true → s.sup.drainWait = none → smWf fieldReset s.cfg = true → pend 0x02 0x001 s ≠ 0 →
      let m := modeOf (pend 0x02 0x001 s)
      (s.mem.glQueue ≠ [] → ∃ t, exec (.tick inp) s = .next t ∧ t.sup.drainWait = some m ∧ t.sup.modeCur = .run
        ∧ t.lane.runList = Vector.replicate 16 [] ∧ t.clk.frameCnt = s.clk.frameCnt + 1)
      ∧ (s.mem.glQueue = [] → (m ≠ .shutdown ∨ s.sup.wakePend = 0) → ∃ t, exec (.tick inp) s = .next t
        ∧ t.sup.drainWait = none ∧ t.sup.modeCur = m ∧ t.evt.latch.getLsbD 0x4D0 = true
        ∧ t.lane.runList = Vector.replicate 16 [] ∧ t.clk.frameCnt = s.clk.frameCnt + 1))

/-- R17, R19, R21, R195, R196, R231, R232, R290: at a tick that stays in RUN each field takes its pending value; a context
that runs starts the new frame from its formed snapshot, or the one in force, with its cycles unused; and the readers of a
stream that a running context wrote see in the new frame what it wrote in the last. -/
def Statements.FrameExchange : Prop :=
  ∀ (inp : TickIn) (s : State), ticking s = true → s.sup.drainWait = none → pend 0x02 0x001 s = 0 →
    smWf fieldReset s.cfg = true → smWf (fun _ => {}) s.lane.ctx = true → smWf (fun _ => {}) s.strm.s = true →
    ∃ t, exec (.tick inp) s = .next t
      ∧ (∀ key, fldK key t = pendK key s)
      ∧ (s.flow = [] → s.lane.fails = [] →
        (∀ n, (ctxAt n s).st = .running →
          let r := (ctxAt n s).form.getD (ctxAt n s).snap
          (ctxAt n t).st = .running ∧ (ctxAt n t).regs = r ∧ (ctxAt n t).snap = r ∧ (ctxAt n t).form = none
            ∧ (ctxAt n t).ran = true ∧ (ctxAt n t).used = 0)
        ∧ (∀ n, (ctxAt n s).st ≠ .running → (ctxAt n t).regs = (ctxAt n s).regs ∧ (ctxAt n t).ran = false)
        ∧ ∀ (n c : Nat), (strm n s).writer = some (1, c) →
            (strm n t).rbuf = (if (ctxAt c s).ran then (strm n s).wbuf else []) ∧ (strm n t).sent = false
              ∧ (strm n t).writer = some (1, c))

/-- R36, R56, R57, R58, R65, R80, R284, Table 03.3: once the Glacier queue is empty the requested mode is entered, with event
0x4D0: the serial ports, the boost, the headphones, the half-bridges, the main PLL and the halo stop, VANA is off outside
LISTEN, SHUTDOWN puts every ball in its reset phase, the vault is re-sealed, and fields, contexts and all other memory stay; a
wake kept from before it begins the exit at once. The exit to RUN raises 0x4D1, with the PLL locked, PWR.MODE reading RUN
and memory as it was. -/
def Obligations.ModeEntryAndExit : Prop :=
  (∀ (m : PowerMode) (s : State), s.sup.drainWait = some m →
    (s.mem.glQueue ≠ [] → exec .modeEntryAfterDrain s = .next s)
    ∧ (s.mem.glQueue = [] → (m ≠ .shutdown ∨ s.sup.wakePend = 0) → ∃ t, exec .modeEntryAfterDrain s = .next t
      ∧ t.sup.modeCur = m ∧ t.sup.drainWait = none ∧ t.sup.wakePend = 0
      ∧ (s.sup.wakePend = 0 → t.sup.waking = s.sup.waking ∧ t.sup.wakeCause = s.sup.wakeCause)
      ∧ (s.sup.wakePend ≠ 0 → t.sup.waking = true ∧ t.sup.wakeCause = s.sup.wakeCause ||| s.sup.wakePend)
      ∧ t.evt.latch.getLsbD 0x4D0 = true
      ∧ (∀ n, n < 4 → (spAt n t).state = .off) ∧ t.halo.run = false
      ∧ (s.boost.phase = .softStart ∨ s.boost.phase = .on → t.boost.phase = .idle ∧ t.boost.discharging = true)
      ∧ (s.boost.phase ≠ .softStart → s.boost.phase ≠ .on → t.boost = s.boost)
      ∧ hpIdle t = true ∧ (∀ x, x < 2 → spkSwitching x t = false) ∧ t.clk.pllLock = false
      ∧ t.sup.vanaOk = (s.sup.vanaOk && decide (m = .listen)) ∧ (m = .shutdown → t.pin.assigned = 0)
      ∧ (m ≠ .listen → t.mic.pdmClk = 0)
      ∧ (s.vault.exporting = none → t.vault.open_ = false ∧ t.vault.valid = 0
          ∧ ∀ a, 0x1C00000 ≤ a → a < 0x1C40000 → byteAt a t = 0)
      ∧ (∀ a, a < 0x1C00000 ∨ 0x1C40000 ≤ a → byteAt a t = byteAt a s)
      ∧ t.lane = s.lane ∧ t.cfg = s.cfg ∧ t.rst = s.rst ∧ t.lcy = s.lcy))
  ∧ (∀ s : State, s.sup.drainWait = none → exec .modeEntryAfterDrain s = .next s)
  ∧ ∀ s : State,
    (s.sup.waking = false ∨ s.sup.modeCur = .run → exec .wakeExit s = .next s)
    ∧ (s.sup.waking = true → s.sup.modeCur ≠ .run → smWf fieldReset s.cfg = true → ∃ t, exec .wakeExit s = .next t
      ∧ t.sup.modeCur = .run ∧ t.sup.waking = false ∧ t.clk.pllLock = true ∧ t.sup.wakeTimerOn = false ∧ t.sup.wakeCause = s.sup.wakeCause
      ∧ fld 0x02 0x001 t = 0 ∧ (∀ key, key ≠ 0x2001 → fldK key t = fldK key s)
      ∧ t.evt.latch.getLsbD 0x4D1 = true
      ∧ (∀ n, n < 4 → fld (0x10 + n) 0x001 s = 1 → (spAt n t).state ≠ .off)
      ∧ t.mem.cells = s.mem.cells ∧ t.lane = s.lane ∧ t.flow = s.flow ∧ t.strm = s.strm)

/-! ### The two-wire ports and the host window -/

/-- R150 to R155: the controller: a free bus starts the transfer; a lost arbitration starts it again while retries are
left; a bus that stays held ends it or is cleared; a stretched clock is cleared and ends it; how far the transfer had come
then is open (assumption log 4); a transfer to its end writes the bytes it read into the buffer and nothing else, with
RESULT, BYTES and events 0x4B4 and 0x4B5. -/
def Obligations.TwoWireController : Prop :=
  ∀ s : State,
    let put := fun (f : TwcState) => { s with twc := f }
    let all := fld 0x06 0x004 s + fld 0x06 0x005 s
    let ended := fun (r : TwcResult) (f : TwcState) => { f with phase := .idle, result := r, clearEnd := .none }
    (s.twc.phase = .waitBus → exec .twcBusFree s
        = .next (put { s.twc with phase := .transfer, sclLow := false, sdaLow := false }))
    ∧ (s.twc.phase = .transfer →
      (0 < s.twc.retries → exec .twcArbLost s = .next (put { s.twc with
        phase := .waitBus, bytes := 0, arbLosses := s.twc.arbLosses + 1, retries := s.twc.retries - 1 }))
      ∧ (s.twc.retries = 0 → ∃ far, far ≤ all ∧ ∃ t, exec .twcArbLost s = .next t
          ∧ t = { raise 0x4B5 (put (ended .arbLost
              { s.twc with bytes := far, arbLosses := s.twc.arbLosses + 1 })) with free := s.free + 1 })
      ∧ ∃ far, far ≤ all ∧ ∃ t, exec .twcStretchTimeout s = .next t
          ∧ t = { put { s.twc with
              bytes := far, phase := .busClear, clearEnd := .stretchTimeout, sclLow := true } with free := s.free + 1 })
    ∧ (s.twc.phase = .waitBus → ∀ sda,
      exec (.twcBusTimeout true sda) s
        = .next (raise 0x4B5 (put (ended .busStuck { s.twc with sclLow := true, sdaLow := sda })))
      ∧ exec (.twcBusTimeout false true) s
        = .next (put { s.twc with phase := .busClear, sclLow := false, sdaLow := true })
      ∧ exec (.twcBusTimeout false false) s
        = .next (raise 0x4B5 (put (ended .busBusy { s.twc with sclLow := false, sdaLow := false }))))
    ∧ (s.twc.phase = .busClear → ∀ n : Fin 10,
      let f := fun sda => { s.twc with clearClocks := n.val, sclLow := false, sdaLow := sda }
      (s.twc.clearEnd = .stretchTimeout →
        exec (.twcBusClearDone n true) s = .next (raise 0x4B5 (raise 0x4B7 (put (ended .stretchTimeout (f false))))))
      ∧ (s.twc.clearEnd = .none →
        exec (.twcBusClearDone n false) s = .next (raise 0x4B5 (put (ended .busStuck (f true))))
        ∧ (s.twc.clearOnly = false →
            exec (.twcBusClearDone n true) s = .next (raise 0x4B7 (put { f false with phase := .waitBus })))
        ∧ (s.twc.clearOnly = true → exec (.twcBusClearDone n true) s
            = .next (raise 0x4B7 (put { f false with phase := .idle, clearOnly := false })))))
    ∧ (s.twc.phase = .transfer → ∀ (rd : List Byte) (es : List Ecc), (∀ e ∈ es, e = .clean) →
      let buf := fld 0x06 0x006 s
      let wl := fld 0x06 0x004 s
      let rl := fld 0x06 0x005 s
      let ready := fun (a n : Nat) => ∀ x, a / 4 * 4 ≤ x → x < a + n →
        addrOn x s = true ∧ copying x s = false ∧ ramOpen x s = false
      let target : Nat → Byte := fun r => BitVec.ofNat 8 (2 * fld 0x06 0x003 s + r)
      let out := fun n => target 0 :: (List.range n).map fun i => byteAt (buf + i) s
      exec (.twcTransferDone (some 0) rd es) s
        = .next (raise 0x4B5 (put (ended .nakAddr { s.twc with sent := [target (if wl = 0 then 1 else 0)] })))
      ∧ (ready buf wl →
        (∀ k, 0 < k → k ≤ wl → exec (.twcTransferDone (some k) rd es) s
          = .next (raise 0x4B5 (put (ended .nakData { s.twc with bytes := k - 1, sent := out k }))))
        ∧ (∀ k, 0 < wl → wl < k → exec (.twcTransferDone (some k) rd es) s
          = .next (raise 0x4B5 (put (ended .nakAddr { s.twc with bytes := wl, sent := out wl ++ [target 1] }))))
        ∧ (ready (buf + 0x100) rl → s.memWf = true → ∃ t, exec (.twcTransferDone none rd es) s = .next t
          ∧ t.twc = ended .done { s.twc with
              bytes := wl + rl
              sent := (if wl = 0 then [] else out wl) ++ (if rl = 0 then [] else [target 1]) }
          ∧ t.evt = (raise 0x4B4 s).evt
          ∧ (∀ i, i < rl → byteAt (buf + 0x100 + i) t = rd.getD i 0xFF)
          ∧ (∀ a, a < buf + 0x100 ∨ buf + 0x100 + rl ≤ a → byteAt a t = byteAt a s)
          ∧ t.lane = s.lane ∧ t.cfg = s.cfg ∧ t.flow = s.flow))
      ∧ (0 < wl → addrOn buf s = false → exec (.twcTransferDone none rd es) s
          = .next (raise 0x4B5 { raise 0x431 s with
              twc := ended .bufErr { s.twc with sent := [target 0], bytes := 0 }, mem := { s.mem with errAddr := BitVec.ofNat 32 buf } })))

/-- R57, R137 to R149, R161, R336: the host target: a START with an address that a comparator matches opens a transfer, or is NAKed
and counted while it may not answer, and is a wake source, outside RUN at once, and a remote-wake reason of a suspended bus;
the first byte of a write sets the pointer, a later byte is written at it; a read
shifts out the byte at it of the snapshot of its word; each byte advances the pointer; STOP, a bus error and the 25 ms
limit end the transfer. -/
def Obligations.HostTarget : Prop :=
  (∀ (a : BitVec 7) (read early : Bool) (s : State), s.rst.phase = .fused ∨ s.rst.phase = .running →
    let u := { twhEnd s with twh := { (twhEnd s).twh with busBusy := true } }
    let hit := fun (base en : Nat) => (en = 0 ∨ fld 0x05 en u = 1) ∧ 8 ≤ a.toNat ∧ a.toNat < 0x78
      ∧ (a ^^^ BitVec.ofNat 7 (fld 0x05 base u)) &&& BitVec.ofNat 7 (fld 0x05 (base + 1) u) = 0
    let w := wakeFire .twh (usbWakeReason 0x08 u)
    let on := s.sup.modeCur ≠ .shutdown
    (¬ on → exec (.twhAddress a read early) s = .next s)
    ∧ (on → ¬ hit 0x001 0 → ¬ hit 0x003 0x005 → exec (.twhAddress a read early) s = .next u)
    ∧ (hit 0x001 0 → u.twh.copying = false ∨ early = false → twhUp u = true →
        exec (.twhAddress a read early) s = .next { w with twh := { u.twh with
          copying := false, active := true, reading := read, wantPtr := !read, lastMatch := false, ack := true } })
    ∧ (hit 0x001 0 → u.twh.copying = true → early = true → u.sup.modeCur = .run →
        exec (.twhAddress a read early) s = .next { w with twh := { u.twh with
          addrNaks := min 0xFFFF (u.twh.addrNaks + 1), addrNak := true } })
    ∧ (s.usb.state ≠ .suspended → s.usb.state ≠ .l1 → s.sup.modeCur = .run → modePending s = .run → w = u)
    ∧ (hit 0x001 0 → s.sup.modeCur = .listen ∨ s.sup.modeCur = .standby → (fld 0x02 0x002 s).testBit 3 = true →
        ∃ t, exec (.twhAddress a read early) s = .next t ∧ t.twh.addrNak = true
          ∧ t.twh.addrNaks = min 0xFFFF (u.twh.addrNaks + 1) ∧ t.sup.waking = true
          ∧ t.sup.wakeCause = s.sup.wakeCause ||| 0x08))
  ∧ (∀ (b : Byte) (s : State), s.twh.active = true → s.twh.reading = false →
    let put := fun (f : TwhState) => { s with twh := f }
    let p := s.twh.pointer.toNat
    let next := { s.twh with pointer := s.twh.pointer + 1, ack := true }
    (s.twh.wantPtr = true → b.toNat < 0x80 → exec (.twhPointerWrite b) s
        = .next (put { s.twh with pointer := b, wantPtr := false, ack := true }))
    ∧ (s.twh.wantPtr = true → 0x80 ≤ b.toNat → s.twh.aptWrite ≠ none → exec (.twhPointerWrite b) s
        = .next (put { s.twh with dataNaks := min 0xFFFF (s.twh.dataNaks + 1), ack := false }))
    ∧ (s.twh.wantPtr = false → s.twh.deaf = true → exec (.twhWriteByte b) s = .next (put { s.twh with ack := false }))
    ∧ (s.twh.wantPtr = false → s.twh.deaf = false →
      (p = 0x04 → exec (.twhWriteByte b) s = .next { s with
          twh := next, win := { s.win with paramSel := if s.rst.stage = .waitHost then s.win.paramSel else b } })
      ∧ (p = 0x14 → s.lcy.shadow ≠ .void → s.rst.stage ≠ .waitHost → exec (.twhWriteByte b) s
          = .next { s with twh := next, win := { s.win with gsel := b.toNat % 64 } })
      ∧ (0x20 ≤ p → p < 0x60 → p % 4 ≠ 3 → exec (.twhWriteByte b) s
          = .next (put { next with part := s.twh.part ++ [(p, b)] }))
      ∧ (0x20 ≤ p → p < 0x60 → p % 4 = 3 → s.twh.part = [] → exec (.twhWriteByte b) s
          = .next { s with twh := next, win := { s.win with mailbox := smSet 0 (p - 0x20) b s.win.mailbox } })
      ∧ (p = 0x60 → exec (.twhWriteByte b) s = .next (doorbell b (put next)))))
  ∧ (∀ (nak late : Bool) (e : Ecc) (s : State), s.twh.active = true → s.twh.reading = true → s.twh.deaf = false →
    let p := s.twh.pointer.toNat
    let ws := if 0x0C ≤ p ∧ p < 0x14 then 0x0C else p / 4 * 4
    let n := if 0x0C ≤ p ∧ p < 0x14 then 8 else 4
    let gives := fun (v : Nat) => exec (.twhReadByte nak late e) s = .next { s with twh := { s.twh with
      snap := if p + 1 = ws + n then none else some (ws, n, v), outByte := BitVec.ofNat 8 (v / 256 ^ (p - ws))
      pointer := s.twh.pointer + 1, deaf := nak } }
    (∀ v, s.twh.snap = some (ws, n, v) → gives v)
    ∧ (s.twh.snap = none → ws < 0x80 → s.lcy.shadow ≠ .void → gives (windowWord ws s)))
  ∧ (∀ (again : Bool) (s : State),
    let u := twhEnd s
    exec (.twhStop true) s = .next { u with twh := { u.twh with busBusy := true } }
    ∧ exec (.twhStop false) s = .next (applyComparators { u with twh := { u.twh with busBusy := false } })
    ∧ (s.twh.active = true →
        let e := twhEnd (raise 0x4B0 { s with twh := { s.twh with busErr := true } })
        exec (.twhBusError again) s = .next (
          if again then { e with twh := { e.twh with busBusy := true } }
          else applyComparators { e with twh := { e.twh with busBusy := false } }))
    ∧ (s.twh.active = true → exec .twhSdaTimeout s
        = .next (raise 0x4B2 { u with twh := { u.twh with sdaRelease := true } }))
    ∧ (s.twh.part = [] → u = { s with twh := { s.twh with
        active := false, reading := false, wantPtr := false, snap := none, deaf := false, ack := false } }))

/-- R110, R122, R130, R145, R146, R165, R167, R169, R170, R179, R180, R269: the host window: PARAM, but in WAIT_HOST, PAGE and
the event groups take their writes, and VOID refuses with event 0x4F4; a doorbell of 0xA5 submits the mailbox, in VOID is
answered LOCKED, or is dropped with DB_LOST; an aperture
word waits for the system port and there writes its bytes of one word, or marks the collision or the error. -/
def Statements.HostWindow : Prop :=
  ∀ (b : Byte) (w a again : Word) (be : BitVec 4) (g : Fin 64) (s : State), twhUp s = true →
    let void := s.lcy.shadow = .void
    let putW := fun (f : WinState) => { s with win := f }
    exec (.paramSelect b) s
        = .next (putW { s.win with paramSel := if s.rst.stage = .waitHost then s.win.paramSel else b })
    ∧ (void → exec (.pageWrite w be) s = .next (raise 0x4F4 s))
    ∧ (¬ void → exec (.pageWrite w be) s
        = .next (putW { s.win with page := mergeBytes s.win.page w be &&& 0xFFFFFF80 }))
    ∧ (∀ x y : Word, mergeBytes x y 0xF = y ∧ mergeBytes x y 0 = x)
    ∧ (¬ void → s.rst.stage ≠ .waitHost → ∃ t, exec (.evtGroupClear (some g) w again) s = .next t
        ∧ (∀ i, i < 32 → t.evt.latch.getLsbD (32 * g.val + i)
            = (again.getLsbD i || (s.evt.latch.getLsbD (32 * g.val + i) && !w.getLsbD i)))
        ∧ (∀ n, n / 32 ≠ g.val → t.evt.latch.getLsbD n = s.evt.latch.getLsbD n)
        ∧ (smWf (fun _ => {}) s.lane.ctx = true → ∀ n, n / 32 = g.val → w.getLsbD (n % 32) = true →
            again.getLsbD (n % 32) = false →
            (ctxAt n t).cold = false ∧ (ctxAt n t).flt = false ∧ (ctxAt n t).ovr = false ∧ (ctxAt n t).evt = false)
        ∧ t.mem = s.mem ∧ t.win = s.win ∧ t.cfg = s.cfg ∧ t.strm = s.strm)
    ∧ (∀ g' : Fin 64, g'.val = s.win.gsel →
        exec (.evtGroupClear none w again) s = exec (.evtGroupClear (some g') w again) s)
    ∧ (b ≠ 0xA5 → exec (.doorbell b) s = .next s)
    ∧ (hostServed s = true → s.win.mbx.busy = false → exec (.doorbell 0xA5) s = .next { s with
        win := { s.win with mbx := { busy := true } }
        cmd := { s.cmd with hostBlk := some ((List.range 16).map fun k => bytesWord (fun n => smGet 0 n s.win.mailbox) (4 * k)) }
        twh := { s.twh with copying := true, deaf := s.twh.active } })
    ∧ (live s = true → s.rst.stage ≠ .waitHost → void → exec (.doorbell 0xA5) s = .next (raise 0x408
        (putW { s.win with mbx := { valid := true, tag := smGet 0 1 s.win.mailbox, code := 0xA } })))
    ∧ (s.rst.stage ≠ .waitHost → ¬ void → hostServed s = false ∨ s.win.mbx.busy = true →
        exec (.doorbell 0xA5) s = .next (putW { s.win with mbx := { s.win.mbx with dbLost := true } }))
    ∧ (s.twh.aptWrite = none → exec (.apertureWrite a w be) s
        = .next { s with twh := { s.twh with aptWrite := some (a &&& 0xFFFFFFFC, w, be) } })
    ∧ (s.twh.aptWrite ≠ none → exec (.apertureWrite a w be) s = .next s)

/-- R145, R146, R269, R271, R274, R286, R301: what the completion of an aperture write does: a register takes its write; in RAM
that it may reach it writes the enabled bytes of the word and no other byte; a write that loses to the owner port, where the
bank has an owner that can write the word, is dropped and counted; an error sets APT_ERR; no bank there, event 0x432. -/
def Statements.ApertureWrites : Prop :=
  ∀ (a w : Word) (be : BitVec 4) (hit : Bool) (e : Ecc) (s : State), s.twh.aptWrite = some (a, w, be) → a.toNat % 4 = 0 →
    portMay .aperture true a.toNat s = true → s.rst.stage ≠ .waitHost →
    let u := { s with twh := { s.twh with aptWrite := none } }
    let x := a.toNat
    let owner := fun k => match k with | 16 => False | 18 => False | 19 => portOccupied x 4 s = true | _ => True
    (isReg x = true → s.rst.resets = [] → exec (.apertureWriteComplete hit e) s = .next (regWrite x w be false u))
    ∧ (memUnit x = none → isReg x = false → exec (.apertureWriteComplete hit e) s = .next (raise 0x432 u))
    ∧ (∀ k, memUnit x = some k → k < 20 →
      (addrOn x s = false → exec (.apertureWriteComplete hit e) s = .next (raise 0x431 { u with
          twh := { u.twh with aptErr := true }, mem := { u.mem with errAddr := BitVec.ofNat 32 x } }))
      ∧ (addrOn x s = true → copying x s = false → brineHolds x s = false → verified x s = false →
        (owner k → exec (.apertureWriteComplete true e) s
            = .next { collide u with twh := { u.twh with collide := true } })
        ∧ (hit = false ∨ ¬ owner k → (be = 0xF ∨ (e = .clean ∧ ramOpen x s = false)) → s.memWf = true →
            ∃ t, exec (.apertureWriteComplete hit e) s = .next t
              ∧ wordAt x t = mergeBytes (wordAt x s) w be
              ∧ SameMemoryBut x 4 s t
              ∧ t = { u with mem := { u.mem with cells := t.mem.cells, known := t.mem.known } })))

/-! ### The debug port -/

/-- R125, R126, R127, R130, R133, R269, R274: debug frames: no answer before the fuse map is loaded; FAULT 0x02 for a wrong
check byte; DREAD and DWRITE of the debug-local registers of Table 06.7 (R13: a write-only one reads 0, a read-only one
takes no write), a value written to DBG_CMD being its command; READ and WRITE wait while a quiet stop runs, a WRITE also
while the Glacier queue is full, and are refused with FAULT 0x0A and event 0x4F4 outside FAB, DEVELOP and an opened RETURN;
what else an access to a register, to RAM, to the vault or to no bank answers; a block in reset answers FAULT. Sixty-four
clocks of low reset the shifter alone. That an index or a command value of no table draws FAULT 0x02 is the model's choice
(assumption log 43). -/
def Obligations.DebugFrames : Prop :=
  ∀ (idx : BitVec 5) (a w : Word) (crc : Byte) (e : Ecc) (hit : Bool) (s : State),
    let up := (s.rst.phase = .fused ∨ s.rst.phase = .running) ∧ s.sup.modeCur ≠ .shutdown
    let gives := fun (i : Instr) (t : State) => exec i s = .next t
    let dbg := fun (f : DbgState) => { s with dbg := f }
    let ok := fun (x : Word) (t : State) => { t with dbg := { t.dbg with resp := 6, rdata := x, rcheck := crc8 (beBytes x) } }
    let fault := fun (c : BitVec 8) (t : State) => { t with dbg := { t.dbg with resp := 3, faultCode := c, faultSub := 0 } }
    let wait := { s with dbg := { s.dbg with resp := 5 } }
    let k := idx.toNat
    let x := a.toNat / 4 * 4
    let may := s.lcy.shadow = .fab ∨ s.lcy.shadow = .develop ∨ (s.lcy.shadow = .ret ∧ s.dbg.session = true)
    let dread := Instr.dbgDread idx (dbgCheck .dread k [])
    let dwrite := Instr.dbgDwrite idx w (dbgCheck .dwrite k [w])
    let read := fun e => Instr.dbgRead a (dbgCheck .read 0 [a]) e
    let write := Instr.dbgWrite a w (dbgCheck .write 0 [a, w]) hit
    gives .debugShifterReset (dbg { s.dbg with shifter := [] })
    ∧ (∀ p ∈ [((0x01 : Word), Instr.dbgHalt crc), (0x02, .dbgResume crc), (0x03, .dbgStep crc), (0x10, .dbgReset crc),
          (0x20, .challenge crc), (0x21, .vendorSession crc), (0x22, .returnRequest crc), (0x30, .dbgVoid crc)],
        exec (.dbgDwrite 2 p.1 crc) s = exec p.2 s)
    ∧ (up → s.dbg.auth = none → s.lcy.quiet = none → w.toNat ∉ [0x01, 0x02, 0x03, 0x10, 0x20, 0x21, 0x22, 0x30] →
        gives (.dbgDwrite 2 w (dbgCheck .dwrite 2 [w])) (fault 2 s))
    ∧ (∀ p ∈ [(Instr.dbgDread idx crc, dbgCheck .dread k []), (.dbgRead a crc e, dbgCheck .read 0 [a]),
          (.dbgWrite a w crc hit, dbgCheck .write 0 [a, w]),
          (.dbgDwrite idx w crc, dbgCheck .dwrite k [w])],
        (¬ up → gives p.1 (dbg { s.dbg with resp := 0xF })) ∧ (up → crc ≠ p.2 → gives p.1 (fault 2 s)))
    ∧ (up →
      (k = 0 → gives dread (ok Config.idWord s))
      ∧ (k = 1 → s.lcy.authFails < 256 → ∃ v, gives dread (ok v s) ∧ v.toNat = lifeCode s.lcy.shadow
          + s.dbg.session.toNat * 2 ^ 4 + (s.dbg.halted && (performing s).isEmpty).toNat * 2 ^ 5
          + s.dbg.nonce.isSome.toNat * 2 ^ 6
          + s.lcy.tokenHash.isSome.toNat * 2 ^ 7 + s.dbg.faultCode.toNat * 2 ^ 8 + s.lcy.authFails * 2 ^ 16)
      ∧ (k = 3 → gives dread (ok (BitVec.ofNat 32 (Config.deviceUid.toNat / 2 ^ 32)) s))
      ∧ (k = 4 → gives dread (ok (BitVec.ofNat 32 Config.deviceUid.toNat) s))
      ∧ (5 ≤ k → k ≤ 8 → (s.dbg.nonce = none → gives dread (ok 0 s))
          ∧ ∀ n, s.dbg.nonce = some n → gives dread (ok (BitVec.ofNat 32 (n.toNat / 2 ^ (32 * (8 - k)))) s))
      ∧ (k = 2 ∨ 9 ≤ k ∧ k < 12 ∨ 16 ≤ k → gives dread (ok 0 s))
      ∧ (12 ≤ k → k < 16 → gives dread (fault 2 s) ∧ gives dwrite (fault 2 s))
      ∧ (k = 9 → gives dwrite (ok 0 (dbg { s.dbg with arg := w })))
      ∧ (k = 10 → gives dwrite (ok 0 (dbg { s.dbg with
          token := BitVec.ofNat 64 (w.toNat * 2 ^ 32 + s.dbg.token.toNat % 2 ^ 32) })))
      ∧ (k = 11 → gives dwrite (ok 0 (dbg { s.dbg with
          token := BitVec.ofNat 64 (s.dbg.token.toNat / 2 ^ 32 * 2 ^ 32 + w.toNat) })))
      ∧ (16 ≤ k → gives dwrite (ok 0 (dbg { s.dbg with sig := s.dbg.sig.setIfInBounds (k - 16) w })))
      ∧ (k < 9 → k ≠ 2 → gives dwrite (ok 0 s)))
    ∧ (up → s.lcy.quiet ≠ none → gives (read e) wait ∧ gives write wait)
    ∧ (up → s.lcy.quiet = none →
      (¬ may → gives (read e) (fault 0xA (raise 0x4F4 s)) ∧ gives write (fault 0xA (raise 0x4F4 s)))
      ∧ (may →
        (isReg x = true → inReset x (settleResets s) = true → ∃ t, gives (read e) t ∧ t.dbg.resp = 3
          ∧ ∃ t', gives write t' ∧ t'.dbg.resp = 3)
        ∧ (isReg x = true → s.rst.resets = [] → gives (read e) (ok (regRead x s).1 (regRead x s).2)
          ∧ gives write (ok 0 (regWrite x w 0xF false s)))
        ∧ (isReg x = false → memUnit x = none → gives (read e) (ok 0 (raise 0x432 s)) ∧ gives write (ok 0 (raise 0x432 s)))
        ∧ (isReg x = false → memUnit x = some 20 → gives write (fault 0xA (raise 0x4F4 s))
          ∧ (s.vault.open_ = false → gives (read e) (fault 0xC (raise 0x4F4 s))))
        ∧ (isReg x = false → memUnit x = some 21 →
          (s.mem.glQueue.length < 16 → gives write (ok 0 (glWrite x w 0xF s)))
          ∧ (glProtected x s = true → gives write (ok 0 (raise 0x436 { s with mem := { s.mem with glWprotHit := true } })))
          ∧ (glProtected x s = false → 16 ≤ s.mem.glQueue.length → (∀ q ∈ s.mem.glQueue, q.1 ≠ x) → gives write wait))
        ∧ (∀ u, isReg x = false → memUnit x = some u → u < 20 → addrOn x s = true → copying x s = false →
            brineHolds x s = false →
          (ramOpen x s = false → gives (read .clean) (ok (wordAt x s) s))
          ∧ (verified x s = false → u ≠ 16 → u ≠ 18 → (u = 19 → portOccupied x 4 s = true) → hit = true →
              gives write (fault 0xD (collide s)))
          ∧ (verified x s = false → u = 16 ∨ u = 18 ∨ (u = 19 ∧ portOccupied x 4 s = false) ∨ hit = false → s.memWf = true → ∃ t, gives write t
              ∧ wordAt x t = w ∧ SameMemoryBut x 4 s t
              ∧ t = { ok 0 s with mem := { s.mem with cells := t.mem.cells, known := t.mem.known } }))))

/-- R96, R119, R127 to R129, R131, R506: the debug commands: no answer before the fuse map is loaded; WAIT while a
signature is checked or a quiet stop runs; FAULT 0x0A with event 0x4F4 in a state that refuses the command; else HALT,
RESUME, STEP, RESET, CHALLENGE, VENDOR_SESSION, RETURN_REQUEST and VOID have their effect, and the end of a signature check
opens the session, starts the transition to RETURN or counts a failure and locks CHALLENGE out. That RESUME and STEP start a
test image in FAB_WAIT is the model's choice (assumption log 42). -/
def Obligations.DebugCommands : Prop :=
  ∀ (crc : Byte) (s : State),
    let up := (s.rst.phase = .fused ∨ s.rst.phase = .running) ∧ s.sup.modeCur ≠ .shutdown
    let busy := s.dbg.auth ≠ none ∨ s.lcy.quiet ≠ none
    let dbg := fun (f : DbgState) => { s with dbg := f }
    let ok := fun (t : State) => { t with dbg := { t.dbg with resp := 6, rdata := 0, rcheck := crc8 [0, 0, 0, 0] } }
    let faultSub := fun (c : BitVec 8) (sub : BitVec 4) (t : State) =>
      { t with dbg := { t.dbg with resp := 3, faultCode := c, faultSub := sub } }
    let fault := fun (c : BitVec 8) => faultSub c 0
    let l := s.lcy.shadow
    let probe := l = .fab ∨ l = .develop ∨ (l = .ret ∧ s.dbg.session = true)
    let turnedAway := fun (i : Instr) (c : Word) (may : Prop) =>
      (¬ up → exec i s = .next (dbg { s.dbg with resp := 0xF }))
      ∧ (up → crc ≠ dbgCheck .dwrite 2 [c] → exec i s = .next (fault 2 s))
      ∧ (up → crc = dbgCheck .dwrite 2 [c] →
        (busy → exec i s = .next (dbg { s.dbg with resp := 5 }))
        ∧ (¬ busy → ¬ may → exec i s = .next (fault 0xA (raise 0x4F4 s))))
    let does := fun (i : Byte → Instr) (c : Word) (t : State) =>
      up → ¬ busy → exec (i (dbgCheck .dwrite 2 [c])) s = .next t
    let checks := fun (k : AuthKind) (n : BitVec 128) (purpose : Word) => dbg { s.dbg with
      auth := some k, nonce := none
      authOk := ecdsaVerify Config.vastalekKey (sha256 (authMessage n purpose)) (dbgSig s) }
    let failed := fun (f : DbgState) => raise 0x4F5 { s with
      lcy := { s.lcy with authFails := min 0xFF (s.lcy.authFails + 1) }, dbg := { f with lockout := true, faultCode := 0xB, faultSub := 2 } }
    let run := if live s = true ∧ s.rst.stage = .fabWait ∧ s.stw.test = false then { s with stw := { test := true } } else s
    turnedAway (.dbgHalt crc) 0x01 probe ∧ turnedAway (.dbgResume crc) 0x02 probe
    ∧ turnedAway (.dbgStep crc) 0x03 probe ∧ turnedAway (.dbgReset crc) 0x10 probe
    ∧ turnedAway (.challenge crc) 0x20 (l ≠ .void) ∧ turnedAway (.vendorSession crc) 0x21 (l = .ret)
    ∧ turnedAway (.returnRequest crc) 0x22 (l = .sealed) ∧ turnedAway (.dbgVoid crc) 0x30 probe
    ∧ (probe →
      does .dbgHalt 0x01 (ok (dbg { s.dbg with halted := true }))
      ∧ does .dbgResume 0x02 (ok { run with dbg := { s.dbg with halted := false, step := false } })
      ∧ (s.dbg.halted = false → does .dbgStep 0x03 (ok s))
      ∧ (let u := { run with dbg := { s.dbg with step := true } }
         s.dbg.halted = true →
          (serves u = false ∨ nextBlock u = none → does .dbgStep 0x03 (ok u))
          ∧ ∀ m ws, serves u = true → nextBlock u = some (m, ws) → does .dbgStep 0x03
              (ok (takeBlock (sourceOf m) ws { emptyMailbox m u with dbg := { s.dbg with step := false } })))
      ∧ does .dbgReset 0x10 (assertReset .debug s)
      ∧ (s.dbg.arg = 0x564F4944 → does .dbgVoid 0x30 (ok (quietStop .toVoid s)))
      ∧ (s.dbg.arg ≠ 0x564F4944 → does .dbgVoid 0x30 (fault 3 s)))
    ∧ (l ≠ .void →
      (s.dbg.lockout = true → does .challenge 0x20 (fault 4 s))
      ∧ (s.dbg.lockout = false → ∃ n, does .challenge 0x20 (ok { s with
          dbg := { s.dbg with nonce := some n }, free := s.free + 1 })))
    ∧ (l = .ret →
      (s.dbg.nonce = none → does .vendorSession 0x21 (faultSub 5 3 s))
      ∧ ∀ n, s.dbg.nonce = some n → does .vendorSession 0x21 (ok (checks .vendor n 0x56454E44)))
    ∧ (l = .sealed →
      (s.lcy.tokenHash = none → does .returnRequest 0x22 (fault 5 (dbg { s.dbg with nonce := none })))
      ∧ (s.lcy.tokenHash ≠ none → s.dbg.nonce = none → does .returnRequest 0x22 (faultSub 5 3 s))
      ∧ ∀ h n, s.lcy.tokenHash = some h → s.dbg.nonce = some n →
        (sha256 (beBytes64 s.dbg.token) = h → does .returnRequest 0x22 (ok (checks .returnReq n 0x5254524E)))
        ∧ (sha256 (beBytes64 s.dbg.token) ≠ h →
            does .returnRequest 0x22 (faultSub 0xB 1 (failed { s.dbg with nonce := none }))))
    ∧ (let f := { s.dbg with auth := none, authOk := false }
       let counted := { s.lcy with authFails := 0 }
       ∀ k, s.dbg.auth = some k →
        (s.dbg.authOk = false → exec .dbgAuthComplete s = .next (failed f))
        ∧ (s.dbg.authOk = true → k = .vendor → exec .dbgAuthComplete s
            = .next (raise 0x4F6 { s with lcy := counted, dbg := { f with session := true } }))
        ∧ (s.dbg.authOk = true → k = .returnReq → exec .dbgAuthComplete s
            = .next (quietStop .toReturn { s with lcy := counted, dbg := f })))
    ∧ exec .authLockoutExpiry s = .next (dbg { s.dbg with lockout := false })

/-! ### Serial ports, their queues and ASRC banks -/

/-- R83, R84, R311, R312: one sample period through a queue of a port that moves samples: it enters the input queue where
there is room, else it is dropped, a slip; the core takes the oldest into the input buffer of the frame, a zero
sample period from an empty queue, a slip; the engine sends the oldest of the output queue and holds it, silence being sent
from an empty queue, a slip; a sample period put into a full output queue pushes the oldest out, a slip. Only the port's
queues and its slip marks change. A port that does not run moves nothing, but that a stopped master finishes its sample
period (R315). -/
def Statements.QueuesOfAPort : Prop :=
  ∀ (port : Fin 6) (samples : List Word) (clk : Bool) (s : State),
    let k := port.val
    let q := portQ k s
    let go := fun side => exec (.portSamplePeriod port side samples clk) s
    let putQ := fun (x : PortQ) (t : State) => { t with clk := { t.clk with ports := vset t.clk.ports k x } }
    let slipped := fun (i : Bool) (t : State) => raise 0x407 { t with clk := { t.clk with
      slip := setBit t.clk.slip k true
      slipIn := if i then vset t.clk.slipIn k (min 0xFFFF (vget t.clk.slipIn k 0 + 1)) else t.clk.slipIn
      slipOut := if i then t.clk.slipOut else vset t.clk.slipOut k (min 0xFFFF (vget t.clk.slipOut k 0 + 1)) } }
    let mark := fun (i : Bool) (t : State) => if clk then slipped i t else t
    let ends := k < 4 ∧ (spAt k s).finishing = true
    (live s = false ∨ (portRuns k s = false ∧ ¬ ends) → ∀ side, go side = .next s)
    ∧ (live s = true → portRuns k s = false → ends → ∀ side,
        go side = .next (putQ {} { s with sp := vset s.sp k { spAt k s with finishing := false } }))
    ∧ (live s = true → portRuns k s = true → ¬ ends →
      (k ≠ 4 → q.inQ.length < portDepth k / portCh k false s →
        go .rxPort = .next (putQ { q with inQ := q.inQ ++ [rxPeriod k samples s] } s))
      ∧ (k ≠ 4 → portDepth k / portCh k false s ≤ q.inQ.length → go .rxPort = .next (mark true s))
      ∧ (k = 4 → ∀ p rest, s.usb.outRing = p :: rest → q.inQ.length < portDepth k / portCh k false s →
        go .rxPort = .next (putQ { q with inQ := q.inQ ++ [p] } { s with usb := { s.usb with outRing := rest } }))
      ∧ (k = 4 → s.usb.outRing = [] → q.inQ.length < portDepth k / portCh k false s →
        go .rxPort = .next (putQ { q with inQ := q.inQ ++ [[]] } (slipped true s)))
      ∧ (let full := bankMode k s = .bypass ∧ frameLen s ≤ q.inBuf.length
        (∀ p rest, q.inQ = p :: rest → ¬ full →
          go .rxCore = .next (putQ { q with inQ := rest, inBuf := q.inBuf ++ [p] } s))
        ∧ (q.inQ = [] → ¬ full → go .rxCore = .next (mark true (putQ { q with inBuf := q.inBuf ++ [[]] } s)))
        ∧ (full → go .rxCore = .next s))
      ∧ (∀ p rest, q.outQ = p :: rest → k ≠ 4 → go .txPort = .next (putQ { q with outQ := rest, sent := p } s))
      ∧ (∀ p rest, q.outQ = p :: rest → k = 4 → go .txPort
          = .next (putQ { q with outQ := rest, sent := p } { s with usb := { s.usb with inPack := s.usb.inPack ++ [p] } }))
      ∧ (q.outQ = [] → k ≠ 4 → go .txPort = .next (mark false (putQ { q with sent := [] } s)))
      ∧ (bankMode k s ≠ .bypass ∨ q.outPos < frameLen s → ∃ t, go .txCore = .next t
        ∧ (portQ k t).inQ = q.inQ ∧ (portQ k t).inBuf = q.inBuf ∧ (portQ k t).outPos = q.outPos + 1
        ∧ (∃ p, (q.outQ.length < portDepth k / portCh k true s → (portQ k t).outQ = q.outQ ++ [p])
            ∧ (portDepth k / portCh k true s ≤ q.outQ.length → (portQ k t).outQ = q.outQ.drop 1 ++ [p]
                ∧ (clk = true → t.evt.latch.getLsbD 0x407 = true)))
        ∧ (∀ j, j ≠ k → portQ j t = portQ j s)
        ∧ t.mem = s.mem ∧ t.lane = s.lane ∧ t.strm = s.strm ∧ t.cfg = s.cfg ∧ t.sp = s.sp ∧ t.usb = s.usb)
      ∧ (bankMode k s = .bypass → frameLen s ≤ q.outPos → go .txCore = .next s))

/-- R87, R88: a tracking bank that acquires lock sets its lock, its queues half full of zero sample periods; one that
loses lock clears it, marks the loss and raises event 0x406; a bank that does not track does neither. -/
def Statements.TrackingBanks : Prop :=
  ∀ (k : Fin 6) (s : State), live s = true →
    let tracks := bankMode k.val s = .tracking
    let lock := fun (b : Bool) (t : State) => { t with clk := { t.clk with trackLock := setBit t.clk.trackLock k.val b } }
    (tracks → portRuns k.val s = true → s.clk.trackLock.getLsbD k.val = false → ∃ t, exec (.asrcLock k) s = .next t
      ∧ t = { lock true s with clk := { (lock true s).clk with ports := t.clk.ports } }
      ∧ (portQ k.val t).inQ = List.replicate (portDepth k.val / (2 * portCh k.val false s)) []
      ∧ (portQ k.val t).outQ = List.replicate (portDepth k.val / (2 * portCh k.val true s)) []
      ∧ ∀ j, j ≠ k.val → portQ j t = portQ j s)
    ∧ (tracks → bankUsed k.val s = true → s.clk.trackLock.getLsbD k.val = true → exec (.asrcUnlock k) s = .next
        (raise 0x406 (let u := lock false s
                      { u with clk := { u.clk with asrcLost := setBit u.clk.asrcLost k.val true } })))
    ∧ (¬ tracks → exec (.asrcLock k) s = .next s ∧ exec (.asrcUnlock k) s = .next s)

/-- R308 to R310, R314: a slave port: an FS edge moves LOST on to SEEKING once BCLK runs; the eighth FS period in a row with
the right bit count and rate brings a seeking port to RUNNING with event 0x444 + n, its queues half full; in RUNNING a wrong
bit count is a framing error with event 0x448 + n, and four in a row take the port to LOST with event 0x440 + n, as the
loss of BCLK or FS does, in SEEKING too. No other port, no memory, no context changes; a master port sees no edge. -/
def Statements.SlavePorts : Prop :=
  ∀ (n : Fin 4) (bclks : BitVec 11) (inRate noBclk : Bool) (s : State), live s = true →
    let x := spAt n.val s
    let b := 0x10 + n.val
    let ok := bclks.toNat = fld b 0x005 s * (match fld b 0x006 s with | 0 => 16 | 1 => 24 | _ => 32)
    let good := if ok ∧ inRate = true then x.good + 1 else 0
    let edge := exec (.spFsEdge n bclks inRate) s
    let putSp := fun (y : SpState) => { s with sp := vset s.sp n.val y }
    let halfFull := fun (t : State) =>
      (portQ n.val t).inQ = List.replicate (128 / (2 * fld b 0x005 s)) []
        ∧ (portQ n.val t).outQ = List.replicate (128 / (2 * fld b 0x005 s)) []
    let apart := fun (t : State) => (∀ j, j ≠ n.val → spAt j t = spAt j s ∧ portQ j t = portQ j s)
      ∧ t.mem = s.mem ∧ t.lane = s.lane ∧ t.strm = s.strm ∧ t.cfg = s.cfg
    let lost := fun (o : Host.Outcome State Fault Refusal) => ∃ t, o = .next t ∧ apart t ∧ halfFull t
      ∧ (spAt n.val t).state = .lost ∧ (spAt n.val t).lostSeen = true ∧ (spAt n.val t).losses = min 0xFFFF (x.losses + 1)
      ∧ t.evt.latch.getLsbD (0x440 + n.val) = true
    (fld b 0x003 s = 1 → edge = .next s ∧ exec (.spLost n noBclk) s = .next s)
    ∧ (fld b 0x003 s ≠ 1 → x.state = .off → edge = .next s)
    ∧ (fld b 0x003 s = 0 →
      (x.state = .lost → bclks ≠ 0 →
        edge = .next (putSp { x with state := .seeking, noBclk := false, good := 0, edge := true, errRun := 0 }))
      ∧ (x.state = .seeking → x.edge = false → edge = .next (putSp { x with edge := true }))
      ∧ (x.state = .seeking → x.edge = true → good < 8 →
        edge = .next (putSp { x with bclkPerFs := bclks.toNat, rateErr := !inRate, good := good }))
      ∧ (x.state = .seeking → x.edge = true → 8 ≤ good → ∃ t, edge = .next t ∧ apart t ∧ halfFull t
        ∧ spAt n.val t = { x with bclkPerFs := bclks.toNat, rateErr := !inRate, good := good, state := .running, errRun := 0 }
        ∧ t.evt = (raise (0x444 + n.val) s).evt)
      ∧ (x.state = .running → ok →
        edge = .next (putSp { x with bclkPerFs := bclks.toNat, rateErr := !inRate, errRun := 0 }))
      ∧ (x.state = .running → ¬ ok → x.errRun < 3 → ∃ t, edge = .next t ∧ apart t
        ∧ spAt n.val t = { x with
            bclkPerFs := bclks.toNat, rateErr := !inRate, frameErrSeen := true
            frameErrs := min 0xFFFF (x.frameErrs + 1), errRun := x.errRun + 1 }
        ∧ t.evt.latch.getLsbD (0x448 + n.val) = true)
      ∧ (x.state = .running → ¬ ok → 3 ≤ x.errRun → lost edge)
      ∧ (x.state = .seeking ∨ x.state = .running → lost (exec (.spLost n noBclk) s)))

/-! ### The USB device -/

/-- R50, R322, R332, R333, R339: VBUS valid starts the charge pump where USB is wanted; VBUS lost takes the device off the
bus, with event 0x4E5, its claims and its blocks dropped; with VUSB in regulation the device attaches, in the boot ROM's
WAIT_DFU as a DFU device; a bus reset returns it to its default state with event 0x4E2 and drops its claims and its
responses. Memory, lanes, streams and fields stay. -/
def Statements.UsbAttachAndReset : Prop :=
  ∀ s : State,
    let rest := fun (t : State) => t.mem = s.mem ∧ t.lane = s.lane ∧ t.strm = s.strm ∧ t.cfg = s.cfg
      ∧ t.flow = s.flow ∧ (∀ c, c ∈ t.cmd.claims ↔ c ∈ s.cmd.claims ∧ c.1 ≠ .usb)
      ∧ t.cmd.usbBlk = none ∧ t.cmd.usbMbx = {} ∧ (∀ j ∈ t.cmd.jobs, j.src = .usb → j.mute = true)
      ∧ t.usb.address = 0 ∧ t.usb.altOut = false ∧ t.usb.altIn = false ∧ t.usb.rwakeOn = false
      ∧ t.usb.outRing = [] ∧ t.usb.driving = false
    let wanted := fld 0x14 0x001 s = 1 ∨ s.rst.stage = .waitDfu
    (live s = true →
      exec .vbusValid s = .next { s with sup := { s.sup with
        vbus := true, usbPump := s.sup.usbPump || (decide wanted && decide (s.sup.modeCur = .run)) } })
    ∧ (s.sup.vbus = true → s.usb.state ≠ .detached → ∃ t, exec .vbusLost s = .next t ∧ rest t
        ∧ t.sup = { s.sup with vbus := false, usbPump := false, vusbOk := false } ∧ t.usb.state = .detached
        ∧ t.usb.dfuMode = .off ∧ t.evt.latch.getLsbD 0x4E5 = true
        ∧ (∀ j ∈ t.cmd.jobs, j.src = .usb → j.copies = [] → j.dead = true))
    ∧ (s.sup.vbus = false → exec .vbusLost s = .next s)
    ∧ (let ready := live s = true ∧ wanted ∧ s.sup.vbus = true ∧ s.sup.usbPump = true ∧ s.sup.vusbOk = true
         ∧ s.usb.state = .detached ∧ s.sup.modeCur = .run
       (¬ ready → exec .usbAttach s = .next s)
       ∧ (ready → s.rst.stage ≠ .waitDfu →
          exec .usbAttach s = .next { s with usb := { s.usb with state := .attached, speed := false } })
       ∧ (ready → s.rst.stage = .waitDfu → exec .usbAttach s = .next (raise 0x4E7 { s with
          usb := { s.usb with state := .dfu, dfuMode := .bootRom, dfu := .dfuIdle, speed := false } })))
    ∧ (live s = true → s.usb.state ≠ .detached → s.usb.testMode = none → ∀ hs, ∃ t,
        exec (.usbBusReset hs) s = .next t ∧ rest t ∧ t.sup = s.sup ∧ t.usb.speed = (hs && s.usb.desc.hs)
        ∧ t.evt.latch.getLsbD 0x4E2 = true
        ∧ (s.usb.dfuMode ≠ .bootRom → t.usb.state = .default ∧ t.usb.dfuMode = .off)
        ∧ (s.usb.dfuMode = .bootRom → t.usb.state = .dfu ∧ t.usb.dfuMode = .bootRom ∧ t.usb.dfu = .dfuIdle
          ∧ (s.usb.dfu ≠ .dfuIdle → t.evt.latch.getLsbD 0x4E7 = true)))

/-- R334 to R338, R509: suspend raises event 0x4E0 and keeps the state to return to; L1 raises 0x4E8, or is answered NYET
while audio runs; a resume returns to that state with event 0x4E1, and with 0x4E3 and report 2 due where a wake reason
stands; the device drives K where it may and a reason stands, and stops for the host, whose earlier K cancels it, MERGED
then set. -/
def Statements.UsbSuspendAndWake : Prop :=
  ∀ s : State,
    let put := fun (u : UsbDev) => { s with usb := u }
    let asleep := s.usb.state = .suspended ∨ s.usb.state = .l1
    let reason := s.usb.reason ≠ 0 ∨ s.usb.software = true
    let due := reason ∧ ((s.usb.state = .suspended ∧ s.usb.rwakeOn = true) ∨ (s.usb.state = .l1 ∧ s.usb.l1Wake = true))
    (live s = true → s.usb.testMode = none → s.usb.state ≠ .detached → ¬ asleep →
      let t := raise 0x4E0 (put { s.usb with state := .suspended, before := s.usb.state, driving := false, hostK := false })
      (s.rst.ckmode ≠ 2 → exec .usbSuspend s = .next t)
      ∧ (s.rst.ckmode = 2 → s.clk.refState = .locked →
          exec .usbSuspend s = .next (raise 0x403 { t with clk := { s.clk with refState := .holdover } })))
    ∧ (usbAnswers s = true → s.usb.desc.lpm = true → s.usb.state ≠ .dfu → ∀ w,
      (s.usb.altOut = true ∨ s.usb.altIn = true → exec (.usbLpmL1 w) s = .next (put { s.usb with nyet := true }))
      ∧ (s.usb.altOut = false → s.usb.altIn = false → exec (.usbLpmL1 w) s = .next (raise 0x4E8 (put { s.usb with
          nyet := false, before := s.usb.state, state := .l1, l1Wake := w, driving := false, hostK := false }))))
    ∧ (live s = true → asleep →
      let u := { s.usb with state := s.usb.before, driving := false, hostK := false }
      (¬ reason → exec .usbResume s = .next (raise 0x4E1 (put u)))
      ∧ (reason → exec .usbResume s = .next (raise 0x4E3 (raise 0x4E1 (put { u with report2 := true })))))
    ∧ (live s = true → due → s.usb.hostK = false →
        exec .usbRemoteWake s = .next (put { s.usb with driving := true }))
    ∧ (¬ due ∨ s.usb.hostK = true → exec .usbRemoteWake s = .next s)
    ∧ (s.usb.driving = true →
        exec .remoteWakeDriveEnd s = .next (put { s.usb with driving := false, hostK := true })
        ∧ (asleep → s.usb.hostK = false → exec .hostKDetected s = .next (put { s.usb with driving := false, hostK := true })))
    ∧ (s.usb.driving = false → asleep → s.usb.hostK = false →
        (due → exec .hostKDetected s = .next (put { s.usb with
          hostK := true, merged := true, sinceFormed := s.usb.sinceFormed ||| 0x100 }))
        ∧ (¬ due → exec .hostKDetected s = .next (put { s.usb with hostK := true })))

/-- R321, R323, R324, R328, R329, R336, R338, R342, R343: standard, audio and HID requests: what each answers and sets; a
rate, an alternate setting or a feature the device does not have is stalled, with no other effect. -/
def Statements.UsbRequests : Prop :=
  ∀ s : State, usbAnswers s = true →
    let reply := fun (b : List Byte) (u : UsbDev) => { s with usb := { u with stalled := false, reply := b } }
    let stalls := { s with usb := { s.usb with stalled := true } }
    let yes := fun (u : UsbDev) => reply [] u
    let d := if s.usb.dfuMode = .bootRom then { vid := 0x3D19, pid := 0x9440 } else s.usb.desc
    let desc := fun (b : List Byte) (l : List UsbItem) => .next (reply b { s.usb with served := some d, items := l })
    let dfu := s.usb.dfuMode ≠ .off
    let hs := s.usb.speed = true
    let sub := if d.wide then 3 else 2
    let size := fun (ch : Nat) => if s.usb.speed then ch * sub * ((topRate d + 7999) / 8000 + 1)
      else ch * sub * ((topRate d + 999) / 1000 + 1)
    let outCh := usbCh false s
    let inCh := usbCh true s
    let boot := s.usb.state = .default ∨ s.usb.state = .addressed
    exec (.getDescriptor .device) s = desc [] [.device d.vid d.pid d.bcd]
    ∧ (dfu → exec (.getDescriptor .configuration) s = desc [] [
        .configuration 1 d.maxPower d.selfPowered d.rwake, .altSetting 0 0 .dfuMode [0xFE, 0x01, 0x02],
        .dfuFunction (decide (s.usb.dfuMode = .runTime)) true false 1024])
    ∧ (¬ dfu → ∃ l, exec (.getDescriptor .configuration) s = desc [] l
        ∧ l.head? = some (.configuration (interfaces d).length d.maxPower d.selfPowered d.rwake)
        ∧ (∀ n k, (interfaces d)[n]? = some k → ∃ cls, .altSetting n 0 k cls ∈ l)
        ∧ (0 < d.outCh → .inputTerminal 1 none ∈ l ∧ .featureUnit 2 ∈ l ∧ .outputTerminal 3 (some 0x0403) ∈ l
          ∧ .endpoint 0x01 .isoOut (size outCh) 1 ∈ l
          ∧ (hs → .endpoint 0x81 .feedback 4 4 ∈ l) ∧ (¬ hs → .endpoint 0x81 .feedback 3 1 ∈ l)
          ∧ .format outCh sub (if d.wide then 24 else 16) ∈ l)
        ∧ (0 < d.inCh → .inputTerminal 4 (some 0x0403) ∈ l ∧ .featureUnit 5 ∈ l ∧ .outputTerminal 6 none ∈ l
          ∧ .endpoint 0x82 .isoIn (size inCh) 1 ∈ l ∧ .format inCh sub (if d.wide then 24 else 16) ∈ l)
        ∧ (0 < d.outCh ∨ 0 < d.inCh → .clockSource 0x10 ∈ l
          ∧ .association 0 (1 + (decide (0 < d.outCh)).toNat + (decide (0 < d.inCh)).toNat) ∈ l)
        ∧ (d.hid = true → .endpoint 0x83 .interruptIn 8 (if s.usb.speed then 4 else 1) ∈ l))
    ∧ (d.lpm = true → ¬ dfu → exec (.getDescriptor .bos) s = desc [] [.lpm 0])
    ∧ (d.lpm = false ∨ dfu → exec (.getDescriptor .bos) s = .next stalls)
    ∧ exec (.getDescriptor (.string 3)) s = desc serialDesc []
    ∧ (d.strings = [] → exec (.getDescriptor (.string 1)) s = desc (strDesc "Vastalek") []
        ∧ exec (.getDescriptor (.string 2)) s = desc (strDesc "Cholum CM9440") [])
    ∧ (∀ x y, d.strings = [x, y] → exec (.getDescriptor (.string 1)) s = desc x []
        ∧ exec (.getDescriptor (.string 2)) s = desc y [])
    ∧ (∀ n, 4 ≤ n → exec (.getDescriptor (.string n)) s = .next stalls)
    ∧ (∀ a : Fin 128, boot → exec (.setAddress a) s = .next (yes { s.usb with
        address := a.val, state := if a.val = 0 then .default else .addressed }))
    ∧ (s.usb.state = .addressed ∨ s.usb.state = .configured →
      let u := { s.usb with altOutNext := false, altInNext := false }
      (s.usb.reason = 0 → s.usb.software = false →
        exec (.setConfiguration 1) s = .next (raise 0x4E4 (yes { u with state := .configured })))
      ∧ (s.usb.reason ≠ 0 ∨ s.usb.software = true →
        exec (.setConfiguration 1) s = .next (raise 0x4E4 (yes { u with state := .configured, report2 := true })))
      ∧ exec (.setConfiguration 0) s = .next (raise 0x4E4 (yes { u with state := .addressed }))
      ∧ ∀ n, n ≠ 0 → n ≠ 1 → exec (.setConfiguration n) s = .next stalls)
    ∧ (∀ on, exec (.deviceRemoteWakeupFeature on) s
        = .next (if s.usb.desc.rwake then yes { s.usb with rwakeOn := on } else stalls))
    ∧ (∀ m : Fin 8, (1 ≤ m.val ∧ m.val ≤ 4 → exec (.setFeatureTestMode m) s = .next (yes { s.usb with testMode := some m.val }))
        ∧ (m.val = 0 ∨ 4 < m.val → exec (.setFeatureTestMode m) s = .next stalls))
    ∧ (s.usb.state = .configured →
      let out := 0 < s.usb.desc.outCh
      let inp := 0 < s.usb.desc.inCh
      (∀ alt : Byte, (out → alt.toNat ≤ 1 →
          exec (.setInterface false alt) s = .next (raise 0x4E4 (yes { s.usb with altOutNext := decide (alt = 1) })))
        ∧ (inp → alt.toNat ≤ 1 →
          exec (.setInterface true alt) s = .next (raise 0x4E4 (yes { s.usb with altInNext := decide (alt = 1) })))
        ∧ (¬ out ∨ 1 < alt.toNat → exec (.setInterface false alt) s = .next stalls)
        ∧ (¬ inp ∨ 1 < alt.toNat → exec (.setInterface true alt) s = .next stalls))
      ∧ (∀ (mute : Option Bool) (vol : Option Int),
        let v := fun (old : Int) => match vol with | some x => max (-128) (min 0 x) | none => old
        (out → exec (.setCurMuteVolume false mute vol) s = .next (raise 0x4E4 (yes { s.usb with
          muteOut := mute.getD s.usb.muteOut, volOut := v s.usb.volOut })))
        ∧ (inp → exec (.setCurMuteVolume true mute vol) s = .next (raise 0x4E4 (yes { s.usb with
          muteIn := mute.getD s.usb.muteIn, volIn := v s.usb.volIn })))
        ∧ (¬ out → exec (.setCurMuteVolume false mute vol) s = .next stalls)
        ∧ (¬ inp → exec (.setCurMuteVolume true mute vol) s = .next stalls))
      ∧ (∀ (k : Fin 6),
        let hz := usbHz k.val
        let mix := mixHz (fld 0x01 0x010 s)
        (s.usb.desc.rates.testBit k.val = true → mix ≤ 4 * hz → hz ≤ 4 * mix →
          exec (.setCurSamFreq (BitVec.ofNat 32 hz)) s = .next (raise 0x4E4 (yes { s.usb with rateNext := k.val })))
        ∧ (s.usb.desc.rates.testBit k.val = false ∨ 4 * hz < mix ∨ 4 * mix < hz →
          exec (.setCurSamFreq (BitVec.ofNat 32 hz)) s = .next stalls))
      ∧ (∀ hz : Word, (∀ k : Fin 6, usbHz k.val ≠ hz.toNat) → exec (.setCurSamFreq hz) s = .next stalls)
      ∧ (∀ b : Byte, exec (.setReport b) s
          = .next (if s.usb.desc.hid then raise 0x4E6 (yes { s.usb with hidLed := b }) else stalls))
      ∧ (s.usb.desc.hid = true → ∀ ack : Bool,
        (s.usb.report2 = true → s.usb.formed = none →
          let r : List Byte := [2, BitVec.ofNat 8 (s.usb.software.toNat * 128 + s.usb.reason.toNat), BitVec.ofNat 8 s.usb.merged.toNat]
          let u := { s.usb with lastReport := r, sinceFormed := 0 }
          exec (.hidReport ack) s = .next { s with usb :=
            if ack then { u with report2 := false, reason := 0, software := false, merged := false } else { u with
              formed := some (BitVec.ofNat 9 (s.usb.merged.toNat * 256 + s.usb.software.toNat * 128 + s.usb.reason.toNat)) } })
        ∧ (∀ c, s.usb.report2 = true → s.usb.formed = some c →
          let u := { s.usb with lastReport := [2, c.setWidth 8, (c >>> 8).setWidth 8] }
          let gone := c &&& ~~~s.usb.sinceFormed
          let reason := s.usb.reason &&& ~~~(gone.setWidth 7)
          let software := s.usb.software && !gone.getLsbD 7
          exec (.hidReport ack) s = .next { s with usb := if ack then { u with
            report2 := decide (reason ≠ 0) || software, reason := reason, software := software
            merged := s.usb.merged && !gone.getLsbD 8, formed := none, sinceFormed := 0 } else u })
        ∧ (s.usb.report2 = false → s.usb.report1 = true → exec (.hidReport ack) s = .next { s with usb := { s.usb with
            lastReport := [1, BitVec.ofNat 8 (fld 0x14 0x012 s)], report1 := !ack } })
        ∧ (s.usb.report2 = false → s.usb.report1 = false → exec (.hidReport ack) s = .next s)))

/-- R326, R327, R342: isochronous packets: an OUT packet's sample periods enter the OUT packet ring while they fit, a
missing or bad packet is counted; an IN token takes the audio that waited at the last SOF, or the feedback value; the interval to each SOF is
kept for the last 64 ms; and each millisecond the feedback value is computed anew: without a correction it is the
nearest value of the format to rate times mean interval. -/
def Statements.UsbPackets : Prop :=
  ∀ s : State, usbAnswers s = true → s.usb.state = .configured →
    let put := fun (u : UsbDev) => { s with usb := u }
    (s.usb.altOut = true →
      (∀ ps : List (List Word), s.usb.outRing.length + ps.length ≤ 2048 / usbCh false s → ∃ t,
        exec (.usbIsoOutPacket .good ps) s = .next t ∧ t = put { s.usb with outRing := t.usb.outRing }
          ∧ t.usb.outRing.length = s.usb.outRing.length + ps.length ∧ s.usb.outRing = t.usb.outRing.take s.usb.outRing.length
          ∧ ∀ i (h : i < ps.length) c, samp c (t.usb.outRing.getD (s.usb.outRing.length + i) [])
              = if c < usbCh false s then rxSample (portBits 4 s) (ps[i].getD c 0) else 0)
      ∧ (∀ p, 2048 / usbCh false s ≤ s.usb.outRing.length → exec (.usbIsoOutPacket .good [p]) s = .next (slipIn 4 s))
      ∧ (∀ ps, exec (.usbIsoOutPacket .crcError ps) s = .next (put { s.usb with crcErrs := min 0xFFFF (s.usb.crcErrs + 1) })
        ∧ exec (.usbIsoOutPacket .missed ps) s = .next (put { s.usb with isoMissed := min 0xFFFF (s.usb.isoMissed + 1) }))
      ∧ exec (.usbIsoInPacket true) s = .next (put { s.usb with feedback := s.usb.fbNext })
      ∧ (let ex := (s.usb.outRing.length : Int) - (usbHz s.usb.rate * 2 / (if s.usb.speed then 8000 else 1000) : Nat)
         let frac := if s.usb.speed then 16 else 14
         ∃ v, exec .usbFeedbackUpdate s = .next (put { s.usb with fbNext := v })
          ∧ (ex = 0 → s.usb.sof ≠ [] → (∀ x ∈ s.usb.sof, x ≤ 300000) → s.usb.sof.length ≤ 512 →
            let exact := usbHz s.usb.rate * s.usb.sof.sum * 2 ^ frac
            let den := s.usb.sof.length * 294912000
            2 * (v.toNat * den) ≤ 2 * exact + den ∧ 2 * exact < 2 * (v.toNat * den) + den)))
    ∧ (s.usb.altOut = false → ∀ r ps, exec (.usbIsoOutPacket r ps) s = .next s ∧ exec .usbFeedbackUpdate s = .next s
        ∧ exec (.usbIsoInPacket true) s = .next s)
    ∧ (s.usb.altIn = true → exec (.usbIsoInPacket false) s = .next (put { s.usb with inSent := s.usb.inReady, inReady := [] }))
    ∧ (s.usb.altIn = false → exec (.usbIsoInPacket false) s = .next s)
    ∧ (∀ cycles,
      let t := put { s.usb with
        sof := (cycles :: s.usb.sof).take (if s.usb.speed then 512 else 64), inReady := s.usb.inPack, inPack := [] }
      (s.rst.ckmode ≠ 2 → exec (.usbSof cycles) s = .next t)
      ∧ (s.rst.ckmode = 2 → exec (.usbSof cycles) s = .next { t with clk := { s.clk with refBad := 0 } }))

/-- R22, R25, R330: the vendor requests of Table 16.5: SUBMIT fills a free mailbox and sets its response word BUSY,
RESPONSE and DIGEST return their bytes, SET_ADDR sets a word address, READ and WRITE move a block of words upward from it
and leave it behind the last; a request that breaks its row's rule is stalled and has no other effect. -/
def Statements.UsbVendorRequests : Prop :=
  ∀ (data : List Byte) (a : Word) (len : BitVec 16) (s : State), usbAnswers s = true → s.usb.state = .configured →
    let reply := fun (b : List Byte) (t : State) => { t with usb := { t.usb with stalled := false, reply := b } }
    let stalls := { s with usb := { s.usb with stalled := true } }
    let free := s.cmd.usbMbx.busy = false ∧ s.cmd.usbBlk = none ∧ s.lcy.quiet = none
    let okLen := fun n => n % 4 = 0 ∧ 4 ≤ n ∧ n ≤ 64
    let le := fun (w : Word) => [w.setWidth 8, (w >>> 8).setWidth 8, (w >>> 16).setWidth 8, (w >>> 24).setWidth 8]
    let word := fun k => data.getD (4 * k + 3) 0 ++ data.getD (4 * k + 2) 0 ++ data.getD (4 * k + 1) 0 ++ data.getD (4 * k) 0
    (free → 8 ≤ data.length → data.length ≤ 64 → exec (.usbSubmit data) s = .next (reply [] { s with
      cmd := { s.cmd with usbBlk := some ((List.range 16).map word), usbMbx := { busy := true } } }))
    ∧ (¬ free ∨ data.length < 8 ∨ 64 < data.length → exec (.usbSubmit data) s = .next stalls)
    ∧ exec .usbResponse s = .next (reply (le (mbxWord s.cmd.usbMbx)) s)
    ∧ exec .usbDigest s
        = .next (reply (le ((evtDigest s).setWidth 32) ++ le ((evtDigest s >>> 32).setWidth 32)) s)
    ∧ (a.toNat % 4 = 0 → exec (.usbSetAddr a) s = .next (reply [] { s with usb := { s.usb with acc := a } }))
    ∧ (a.toNat % 4 ≠ 0 → exec (.usbSetAddr a) s = .next stalls)
    ∧ (¬ okLen len.toNat → ∀ es, exec (.usbRead len es) s = .next stalls)
    ∧ (¬ okLen data.length → ∀ hits, exec (.usbWrite data hits) s = .next stalls)
    ∧ (okLen len.toNat → ∀ es, ∃ t, exec (.usbRead len es) s = .next t ∧ t.usb.stalled = false
        ∧ t.usb.reply.length = len.toNat ∧ t.usb.acc = s.usb.acc + BitVec.ofNat 32 len.toNat)
    ∧ (len = 4 → ∀ e es, exec (.usbRead len (e :: es)) s = .next (
        let (r, t) := sysRead .usb s.usb.acc.toNat e s
        reply (le (match r with | .ok w => w | _ => 0)) { t with usb := { t.usb with acc := t.usb.acc + 4 } }))
    ∧ (okLen data.length → ∀ hits, ∃ t, exec (.usbWrite data hits) s = .next t ∧ t.usb.stalled = false
        ∧ t.usb.acc = s.usb.acc + BitVec.ofNat 32 data.length)
    ∧ (data.length = 4 → ∀ hit hits, exec (.usbWrite data (hit :: hits)) s = .next (
        let t := (sysWrite .usb s.usb.acc.toNat (word 0) 0xF hit .clean s).2
        reply [] { t with usb := { t.usb with acc := t.usb.acc + 4 } }))

/-- R331, R332, Table 16.6: DFU: DFU_DETACH drops the other USB claims, claims MEM unit 22 and comes back as a DFU device, and is stalled while
another source holds that unit; blocks of a download fill the slot or, in the boot ROM, the staging area one after the
other; an empty one ends it; manifestation checks the image: the boot ROM runs a good one, a fault gives dfuERROR with the
check's status, which DFU_CLRSTATUS clears. Each change of state raises event 0x4E7. -/
def Statements.DeviceFirmwareUpgrade : Prop :=
  ∀ (b : List Byte) (s : State), usbAnswers s = true →
    let held := ∃ c ∈ s.cmd.claims, c.1 ≠ .usb ∧ c.2.1 = 0x09 ∧ (c.2.2 = 22 ∨ c.2.2 = 0xFFFF)
    let go := fun (st : DfuState) (u : UsbDev) (t : State) => raise 0x4E7 { t with usb := { u with dfu := st } }
    let yes := fun (u : UsbDev) => { u with stalled := false, reply := [] }
    let stalls := { s with usb := { s.usb with stalled := true } }
    let off := if s.usb.dfu = .dfuIdle then 0 else s.usb.dfuLen
    let taking := s.usb.dfu = .dfuIdle ∨ s.usb.dfu = .dnloadIdle
    let some' := { s.usb with dfuLen := off + b.length, dfuCode := 0x0F, dfuStatus := 0 }
    let slot := if fld 0x14 0x00C s = 1 then 0x2080000 else 0x2000000
    let staged := imgAt 0x1000000 s
    let failed := fun (i : Instr) (x : Nat × Nat) => ∃ t, exec i s = .next t ∧ t.usb.dfu = .error
      ∧ t.usb.dfuCode = x.1 ∧ t.usb.dfuStatus = dfuStatusOf x.1 ∧ t.evt.latch.getLsbD 0x4E7 = true
    (s.usb.state = .configured → s.usb.desc.dfu = false ∨ held → exec .dfuDetach s = .next stalls)
    ∧ (s.usb.state = .configured → s.usb.desc.dfu = true → ¬ held → ∃ t, exec .dfuDetach s = .next t
        ∧ (∀ c, c ∈ t.cmd.claims ↔ (c ∈ s.cmd.claims ∧ c.1 ≠ .usb) ∨ c = (.usb, 0x09, 22))
        ∧ ((∃ c ∈ s.cmd.claims, c.1 = .usb ∧ c ≠ (.usb, 0x09, 22)) →
            t.evt.latch.getLsbD 0x40B = true ∧ t.cmd.dropped.getLsbD 0 = true)
        ∧ t.usb.state = .dfu ∧ t.usb.dfuMode = .runTime ∧ t.usb.dfu = .dfuIdle ∧ t.usb.dfuLen = 0
        ∧ t.usb.address = 0 ∧ t.usb.altOut = false ∧ t.usb.altIn = false ∧ t.evt.latch.getLsbD 0x4E7 = true
        ∧ t.mem = s.mem ∧ t.cfg = s.cfg ∧ t.lane = s.lane)
    ∧ (s.usb.dfuMode ≠ .off → s.usb.dfu = .dnloadIdle → b = [] →
        exec (.dfuDnload b) s = .next (go .manifestSync (yes s.usb) s))
    ∧ (s.usb.dfuMode ≠ .off → taking → 1024 < b.length → exec (.dfuDnload b) s = .next stalls)
    ∧ (s.usb.dfuMode = .bootRom → taking → b ≠ [] → b.length ≤ 1024 → off + b.length ≤ 0x80000 → s.memWf = true →
        ∃ t, exec (.dfuDnload b) s = .next t
          ∧ (∀ i (h : i < b.length), byteAt (0x1000000 + off + i) t = b[i])
          ∧ SameMemoryBut (0x1000000 + off) b.length s t
          ∧ t = go .dnloadIdle some' { s with mem := { s.mem with cells := t.mem.cells } })
    ∧ (s.usb.dfuMode = .runTime → taking → b ≠ [] → b.length ≤ 1024 → off + b.length ≤ 0x80000 →
        (glProtected (slot + off) s = false → glProtected (slot + off + b.length - 1) s = false →
          exec (.dfuDnload b) s = .next (go .dnloadIdle some' (glWriteBytes (slot + off) b s)))
        ∧ (glProtected (slot + off) s = true → ∃ t, exec (.dfuDnload b) s = .next t ∧ t.usb.dfu = .error
            ∧ t.usb.dfuStatus = 0x03 ∧ t.mem = { s.mem with glWprotHit := true } ∧ t.evt.latch.getLsbD 0x436 = true))
    ∧ (s.usb.dfuMode = .bootRom → s.usb.dfu = .manifestSync →
      (∀ x, checkImage staged true (some s.usb.dfuLen) s.lcy.shadow s = some x → failed .dfuManifest x)
      ∧ (checkImage staged true (some s.usb.dfuLen) s.lcy.shadow s = none → ∃ t, exec .dfuManifest s = .next t
          ∧ t.rst.stage = .running ∧ t.rst.path = 3 ∧ t.rst.handedOver = true ∧ t.usb.state = .detached
          ∧ t.usb.dfuMode = .off ∧ t.stw.regs.pc = (imgWord staged 0x14 - 0x800000) / 4))
    ∧ (s.usb.dfuMode = .runTime → s.usb.dfu = .manifestSync →
      let u := imgEcc slot s
      (∀ x, checkImage (imgAt slot u) true none u.lcy.shadow u = some x → failed .dfuManifest x)
      ∧ (checkImage (imgAt slot u) true none u.lcy.shadow u = none → exec .dfuManifest s
          = .next (go .dfuIdle { u.usb with dfuCode := 0, dfuStatus := 0 } u)))
    ∧ (s.usb.dfuMode ≠ .off → s.usb.dfu = .error →
        exec .dfuClrstatus s = .next (go .dfuIdle { yes s.usb with dfuStatus := 0 } s))

/-! ### The Rholde ring -/

/-- R345 to R347, R351, R352, R356, R357, R363: a frame passing a node that is not the master. A TRAINED node forwards it with
its own PRESENT bit set, its transmitted slots inserted and marked, its CRC recomputed, inverted where the frame came bad;
it removes a message for itself, acting on it only in a good frame, and one of its own that came back, and puts its oldest
message into an EMPTY word; it takes the slots of a good frame and holds them through four bad ones. A JOINING node sends
HELLO in an EMPTY word; CHECK counts clean frames; in OFF and SEEK nothing happens. -/
def Statements.RingForwarding : Prop :=
  ∀ (f : RingFrame) (errs : Nat) (s : State), smWf (fun _ => 0) f.slots = true →
    let run := exec (.ringFrameForward (some f) errs) s
    let good := f.crc = frameCrc f
    let stomped := f.crc = ~~~frameCrc f
    let m := f.ctl
    let r := s.ring
    let counted := fun (t : State) => t.ring.codeErrs = min 0xFFFF (r.codeErrs + errs)
      ∧ t.ring.crcErrs = min 0xFFFF (r.crcErrs + if ¬ good ∧ ¬ stomped then 1 else 0)
      ∧ t.ring.stomped = min 0xFF (r.stomped + if stomped then 1 else 0)
      ∧ (0 < errs ∨ (¬ good ∧ ¬ stomped) → t.evt.latch.getLsbD 0x453 = true)
    let received := fun (t : State) => (good → (∀ k, smGet 0 k t.ring.rx = (smGet 0 k f.slots >>> 8) <<< 8) ∧ t.ring.badRun = 0)
      ∧ (¬ good → r.badRun < 4 → t.ring.rx = r.rx ∧ t.ring.badRun = r.badRun + 1 ∧ t.ring.held = min 0xFFFF (r.held + 1))
      ∧ (¬ good → 4 ≤ r.badRun → t.ring.rx = [])
    let apart := fun (t : State) => t = { s with ring := t.ring, evt := t.evt }
    (live s = false ∨ r.role = true ∨ r.state = .off ∨ r.state = .seek → run = .next s)
    ∧ (live s = true → r.role = false →
      (r.state = .check → ∃ t, run = .next t ∧ apart t ∧ counted t ∧ received t ∧ t.ring.sent = none
        ∧ (good → errs = 0 → t.ring.clean = min 240 (r.clean + 1))
        ∧ (¬ good ∨ 0 < errs → t.ring.clean = 0 ∧ t.ring.trainFail = 2 ∧ t.evt.latch.getLsbD 0x452 = true))
      ∧ (r.state = .joining → ∃ t g, run = .next t ∧ apart t ∧ counted t ∧ received t ∧ t.ring.sent = some g
        ∧ g = { f with ctl := g.ctl, crc := if good then frameCrc g else ~~~frameCrc g }
        ∧ (r.helloSent = false → m.typ = 0 → g.ctl = { typ := 2, dst := 0, src := 0x7E, data := uid0 } ∧ t.ring.helloSent = true)
        ∧ (r.helloSent = false → m.typ ≠ 0 → g.ctl = m ∧ t.ring.state = .wait)
        ∧ (r.helloSent = true → m.typ = 3 → m.dst = 0x7E → m.data = uid0 → good → g.ctl = {} ∧ t.ring.inbox = r.inbox ++ [m]))
      ∧ (r.state = .trained → r.leaveSent = false → ∃ t g, run = .next t ∧ apart t ∧ counted t ∧ received t
        ∧ t.ring.state = .trained ∧ t.ring.sent = some g
        ∧ g.no = f.no ∧ g.tag = f.tag ∧ g.join = f.join ∧ g.call = f.call
        ∧ g.crc = (if good then frameCrc g else ~~~frameCrc g)
        ∧ g.present = setBit f.present r.addr.toNat true
        ∧ (∀ k, k < 384 → k ∈ txSlots s →
            g.written.getLsbD k = true ∧ smGet 0 k g.slots = smGet 0 k (portQ 5 s).sent)
        ∧ (∀ k, k < 384 → k ∉ txSlots s → g.written.getLsbD k = f.written.getLsbD k ∧ smGet 0 k g.slots = smGet 0 k f.slots)
        ∧ ((∃ k, k < 384 ∧ k ∈ txSlots s ∧ f.written.getLsbD k = true) → t.evt.latch.getLsbD 0x459 = true)
        ∧ (m.typ = 0 → r.afterJoin = true → g.ctl = m)
        ∧ (m.typ = 0 → r.afterJoin = false → ∀ x rest, r.outbox = x :: rest → x.typ ≠ 5 → g.ctl = x ∧ t.ring.outbox = rest)
        ∧ (m.typ ≠ 0 → m.dst = r.addr → g.ctl = {} ∧ (¬ good → t.ring.inbox = r.inbox)
            ∧ (good → m.typ.toNat < 0xC → t.ring.inbox = r.inbox ++ [m])
            ∧ (good → 0xC ≤ m.typ.toNat → t.ring.inbox = r.inbox ∧ t.ring.badMsg = min 0xFF (r.badMsg + 1)))
        ∧ (m.typ ≠ 0 → m.dst ≠ r.addr → m.rly = true → m.src = r.addr → g.ctl = {}
            ∧ (good → t.ring.undelivered = min 0xFF (r.undelivered + 1)))
        ∧ (m.typ ≠ 0 → m.dst ≠ r.addr → m.rly = false ∨ m.src ≠ r.addr → g.ctl = m))
      ∧ (r.state = .trained → r.leaveSent = true → ∃ t, run = .next t ∧ t.ring.state = .off ∧ t.ring.addr = 0x7E))

/-- R345, R349, R350, R352, R358, R360, R362, R365: the master: each frame it originates carries the next number, its tag,
its own slots, the slots relayed from the frame before last, JOIN when a window is due and CALL in a burst, and the control
word that has precedence; a returned frame gives the loop delay, whose excess stops relaying, the PRESENT map, the relay of
a message and, with another tag, a conflict; forming, a lost node and a broken ring have their effects and events. -/
def Statements.RingMasterFrames : Prop :=
  ∀ (f : RingFrame) (n errs : Nat) (s : State), live s = true → s.ring.role = true →
    let r := s.ring
    let own : Byte := uid0.setWidth 8
    let apart := fun (t : State) => t = { s with ring := t.ring, evt := t.evt }
    let half := { s with clk := { s.clk with ports := vset s.clk.ports 5 { portQ 5 s with inQ := [[]], outQ := [[]] } } }
    let sends := r.state = .trained ∨ r.state = .forming
    let put := fun (x : RingNode) => { s with ring := x }
    let conflict := fun (o : Host.Outcome State Fault Refusal) => ∃ t, o = .next t ∧ t.ring.state = .conflict
      ∧ t.ring.trainFail = 6 ∧ t.evt.latch.getLsbD 0x458 = true ∧ t.mem = s.mem ∧ t.cfg = s.cfg ∧ t.strm = s.strm
    let orig := exec .ringFrameOriginate s
    let ret := exec (.ringFrameReturn (some f) n errs) s
    (¬ sends → orig = .next s ∧ ret = .next s)
    ∧ (sends → r.leaveSent = false → (∀ p ∈ r.returned, smWf (fun _ => 0) p.2.2 = true) → ∃ t g, orig = .next t
      ∧ t = { s with ring := t.ring, evt := t.evt, free := t.free }
      ∧ t.ring.sent = some g ∧ g.no = r.frameNo + 1 ∧ t.ring.frameNo = g.no ∧ g.tag = own ∧ g.present = 1 ∧ g.written = 0
      ∧ g.crc = frameCrc g ∧ g.call = decide (0 < r.callLeft) ∧ t.ring.callLeft = r.callLeft - 1
      ∧ g.join = (decide (fld 0x15 0x003 s = 1) && decide (383 ≤ r.sinceJoin) && decide (r.callLeft = 0))
      ∧ (∀ k, k < 384 → k ∈ txSlots s → smGet 0 k g.slots = smGet 0 k (portQ 5 s).sent)
      ∧ (∀ k, k < 384 → k ∉ txSlots s →
          (r.loopLong = true → smGet 0 k g.slots = 0)
          ∧ (∀ w x, r.loopLong = false → r.returned.find? (fun p => p.1 == g.no - 2) = some (g.no - 2, w, x) →
              smGet 0 k g.slots = if w.getLsbD k then smGet 0 k x else 0)
          ∧ (r.returned.find? (fun p => p.1 == g.no - 2) = none →
              (r.badRun = 0 ∨ 5 ≤ r.badRun → smGet 0 k g.slots = 0)
              ∧ (smGet 0 k g.slots ≠ 0 → ∃ p, r.returned.head? = some p ∧ p.2.1.getLsbD k = true
                  ∧ smGet 0 k g.slots = smGet 0 k p.2.2)))
      ∧ (r.leaving = true → g.ctl = { typ := 5, dst := 0x7F, src := 0, arg := 1 } ∧ t.ring.leaveSent = true)
      ∧ (r.leaving = false → r.helloNext = true → g.ctl = {})
      ∧ (∀ x, r.leaving = false → r.helloNext = false → r.assign = some x → g.ctl = x ∧ t.ring.assign = none)
      ∧ (∀ x rest, r.leaving = false → r.helloNext = false → r.assign = none → r.relay = x :: rest →
          g.ctl = { x with rly := true } ∧ t.ring.relay = rest)
      ∧ (∀ x rest, r.leaving = false → r.helloNext = false → r.assign = none → r.relay = [] → r.outbox = x :: rest →
          x.typ ≠ 5 → g.ctl = x ∧ t.ring.outbox = rest))
    ∧ (sends → r.leaveSent = true → ∃ t, orig = .next t ∧ t.ring.state = .off)
    ∧ (sends → f.crc = frameCrc f → f.tag = own → ∃ t, ret = .next t ∧ apart t
      ∧ t.ring.loop = min n 0xFFFF ∧ t.ring.broken = false
      ∧ (smWf (fun _ => 0) f.slots = true → ∀ k, smGet 0 k t.ring.rx = (smGet 0 k f.slots >>> 8) <<< 8)
      ∧ (3932 < n → t.ring.loopLong = true ∧ t.ring.shortLoop = 0
          ∧ (r.loopLong = false → t.ring.trainFail = 7 ∧ t.evt.latch.getLsbD 0x452 = true))
      ∧ (n ≤ 3932 → t.ring.loopLong = (r.loopLong && decide (r.shortLoop < 47)))
      ∧ t.ring.returned = ((f.no, f.written, f.slots) :: r.returned).take 4
      ∧ t.ring.present = r.present ||| f.present
      ∧ (∀ a, a < 64 → (r.present.getLsbD a = true → f.present.getLsbD a = false →
            smGet 0 a t.ring.missing = min 4 (smGet 0 a r.missing + 1))
          ∧ (f.present.getLsbD a = true → smGet 0 a t.ring.missing = 0))
      ∧ (r.state = .forming → t.ring.formed = min 48 (r.formed + 1))
      ∧ (f.ctl.typ ≠ 0 → f.ctl.typ.toNat < 0xC → f.ctl.dst = 0 → t.ring.inbox = r.inbox ++ [f.ctl])
      ∧ (f.ctl.typ ≠ 0 → f.ctl.dst ≠ 0 → f.ctl.dst ≠ 0x7F → f.ctl.rly = false → t.ring.relay = r.relay ++ [f.ctl])
      ∧ (f.ctl.typ ≠ 0 → f.ctl.dst ≠ 0 → f.ctl.rly = true → t.ring.relay = r.relay ∧ t.ring.inbox = r.inbox))
    ∧ (sends → f.crc = frameCrc f → f.tag ≠ own → conflict ret)
    ∧ (r.state = .seek ∨ r.state = .conflict → conflict (exec (.ringMasterListen true) s)
        ∧ exec (.ringMasterListen false) s = .next (put { r with formDue := true }))
    ∧ (r.state = .forming → r.formed = 48 → exec .ringMasterTrained s
        = .next (raise 0x450 { half with ring := { r with state := .trained, lastBlk := [], lastAcc := [], parts := [] } }))
    ∧ (r.formed ≠ 48 → exec .ringMasterTrained s = .next s)
    ∧ (sends → ∀ a : Fin 64, a ≠ 0 → r.present.getLsbD a = true → 4 ≤ smGet 0 a r.missing →
        exec (.ringNodeLost a) s = .next (raise 0x455 (put { r with
          present := setBit r.present a false, missing := smSet 0 a.val 0 r.missing
          assigned := setBit r.assigned a false })))
    ∧ (sends → r.broken = false → exec .ringBroken s = .next (raise 0x456 (put { r with broken := true })))
    ∧ (r.broken = true → r.state = .trained → ∃ t, exec .ringBrokenTimeout s = .next t ∧ t.ring.state = .forming
        ∧ t.ring.formed = 0 ∧ t.evt.latch.getLsbD 0x451 = true ∧ (∀ c, c ∈ t.cmd.claims ↔ c ∈ s.cmd.claims ∧ c.1 ≠ .ring))

/-- R178, R356 to R359, R362, R364, R370, R504: the states of a node: lock leads from SEEK to CHECK, 240 clean frames to WAIT, a
join window to JOINING, a matching ASSIGN to TRAINED with event 0x450; timeouts, EJECT, a lost lock and leaving close the
bypass and give the address up, and out of TRAINED end the ring's claims and blocks with event 0x451; the master answers HELLO
with the lowest free address, or EJECT, and frees the address of a node that leaves; TRAINED and a lock that returns begin
with half-full queues (R83); a node clocked by the ring loses its reference with the lock (R75); a call is seen in RUN,
where it is kept for a pending mode change (R65) and recorded as a wake reason (R336), and wakes a sleeping part. -/
def Statements.RingTraining : Prop :=
  ∀ (m : RingMsg) (s : State),
    let r := s.ring
    let put := fun (x : RingNode) => { s with ring := x }
    let half := fun (x : RingNode) => { s with
      ring := x, clk := { s.clk with ports := vset s.clk.ports 5 { portQ 5 s with inQ := [[]], outQ := [[]] } } }
    let down := fun (st : RingState) (x : RingNode) => { x with
      state := st, addr := 0x7E, helloSent := false, leaving := false, leaveSent := false, clean := 0, formed := 0
      formDue := false, callLeft := 0, returned := [], assign := none, outbox := [], relay := [], inbox := [] }
    let fails := fun (i : Instr) (k : Nat) => exec i s = .next (raise 0x452 (put { down .seek r with trainFail := k }))
    let leaves := fun (i : Instr) (st : RingState) => ∃ t, exec i s = .next t ∧ t.ring.state = st ∧ t.ring.addr = 0x7E
      ∧ t.ring.lastBlk = [] ∧ t.ring.lastAcc = [] ∧ t.ring.parts = [] ∧ t.ring.send = none
      ∧ t.cmd.ringBlk = none ∧ t.cmd.ringMbx = {} ∧ (∀ c, c ∈ t.cmd.claims ↔ c ∈ s.cmd.claims ∧ c.1 ≠ .ring)
      ∧ (∀ j ∈ t.cmd.jobs, j.src = .ring → j.copies ≠ [] ∧ j.mute = true) ∧ t.evt.latch.getLsbD 0x451 = true
      ∧ t.mem = s.mem ∧ t.cfg = s.cfg ∧ t.strm = s.strm ∧ t.lane = s.lane ∧ t.flow = s.flow
    let takes := fun (typ : BitVec 4) => r.inbox.find? (fun x => x.typ == typ) = some m
    let q := { r with inbox := r.inbox.erase m }
    let up := live s = true
    let starts := fun (x : RingNode) => if r.lock then put x else half x
    (up → r.state = .seek → r.role = false →
      exec .ringSymbolLock s = .next (starts { r with state := .check, lock := true, clean := 0 }))
    ∧ (up → r.state ≠ .seek → r.state ≠ .off → exec .ringSymbolLock s = .next (starts { r with lock := true }))
    ∧ (r.state = .check → r.clean = 240 → exec .ringCheckPassed s = .next (put { r with state := .wait }))
    ∧ (r.clean ≠ 240 → exec .ringCheckPassed s = .next s)
    ∧ (r.state = .wait → r.lock = true →
      exec .ringJoinWindow s = .next (put { r with state := .joining, helloSent := false }))
    ∧ (r.state = .joining → fails .ringJoinTimeout 4)
    ∧ (r.state = .wait → exec .ringJoinTimeout s = .next (raise 0x452 (put { r with trainFail := 3 })))
    ∧ (takes 3 → r.state = .joining → m.data = uid0 → exec .assign s = .next (raise 0x450 (half { q with
        addr := BitVec.ofNat 7 m.arg.toNat, state := .trained, lastBlk := [], lastAcc := [], parts := [] })))
    ∧ (takes 3 → r.state ≠ .joining ∨ m.data ≠ uid0 → exec .assign s = .next (put q))
    ∧ (takes 5 → r.role = false →
      (r.state = .joining → exec .eject s = .next (raise 0x452 (put { down .seek r with
          trainFail := if m.arg = 2 then 5 else 8 })))
      ∧ (r.state = .trained → r.leaving = false → leaves .eject .seek)
      ∧ (r.state = .trained → r.leaving = true → leaves .eject .off))
    ∧ (takes 2 → r.role = true → r.state = .trained ∨ r.state = .forming →
      (∀ a, 1 ≤ a → a < 64 → r.assigned.getLsbD a = false → (∀ b, 1 ≤ b → b < a → r.assigned.getLsbD b = true) →
        exec .hello s = .next (raise 0x454 (put { q with
          assigned := setBit r.assigned a true
          assign := some { typ := 3, dst := 0x7E, src := 0, seq := m.seq, arg := BitVec.ofNat 8 a, data := m.data } })))
      ∧ ((∀ a, 1 ≤ a → a < 64 → r.assigned.getLsbD a = true) → exec .hello s = .next (put { q with
          assign := some { typ := 5, dst := 0x7E, src := 0, seq := m.seq, arg := 2 } })))
    ∧ (takes 4 → m.src ≠ 0 → exec .leave s = .next (put { q with
        assigned := setBit r.assigned m.src.toNat false, present := setBit r.present m.src.toNat false
        missing := smSet 0 m.src.toNat 0 r.missing }))
    ∧ (r.state = .trained → r.leaving = true → r.role = false → leaves .ringLeaveTimeout .off)
    ∧ (r.leaving = false ∨ r.role = true → exec .ringLeaveTimeout s = .next s)
    ∧ (r.lock = true →
      let t := put { r with lock := false, lockLosses := min 0xFFFF (r.lockLosses + 1) }
      (s.rst.ckmode ≠ 3 → exec .ringLockLost s = .next t)
      ∧ (s.rst.ckmode = 3 → s.clk.refState = .locked ∨ s.clk.refState = .acquiring →
          exec .ringLockLost s = .next (raise 0x403 { t with clk := { s.clk with refState := .holdover } })))
    ∧ (r.lock = false → exec .ringLockLost s = .next s)
    ∧ (r.lock = false → r.role = false →
      (r.state = .trained → leaves .ringLockLostTimeout .seek)
      ∧ (r.state = .check ∨ r.state = .wait ∨ r.state = .joining → fails .ringLockLostTimeout 1))
    ∧ (up → s.sup.modeCur = .run → ∃ t, exec .ringCallDetect s = .next t
        ∧ t = { s with ring := { r with callSeen := true }, usb := t.usb, sup := t.sup }
        ∧ (running s = true → wakes (modePending s) .ring s = true → t.sup.wakePend = s.sup.wakePend ||| 0x20)
        ∧ (s.usb.state ≠ .suspended → s.usb.state ≠ .l1 → t.usb = s.usb)
        ∧ (s.usb.state = .suspended ∨ s.usb.state = .l1 →
            t.usb.reason = s.usb.reason ||| (0x20 &&& BitVec.ofNat 7 (fld 0x14 0x013 s))))
    ∧ (up → s.sup.modeCur = .listen ∨ s.sup.modeCur = .standby → (fld 0x02 0x002 s).testBit 5 = true →
        ∃ t, exec .ringCallDetect s = .next t ∧ t.sup.waking = true ∧ t.sup.wakeCause = s.sup.wakeCause ||| 0x20)

/-- R352 to R355: what a message does at the node that receives it, beside leaving the inbox: ACK, CMD_RESP and RESULT move
the node's own send on, end it with event 0x457, or, not matching it, do nothing; a send without a reply is tried three times;
CMD_DATA words in order are put together, a gap is answered ACK 0x02, a complete block ACK 0x00 into a free mailbox and 0x01 into
a busy one, a repeated block with the stored response; SET_ADDR, READ and WRITE are answered with RESULT, a repeated one with the
stored RESULT alone. -/
def Statements.RingMessages : Prop :=
  ∀ (m : RingMsg) (x : RingSend) (s : State),
    let r := s.ring
    let self := if r.role then 0 else r.addr
    let takes := fun (typ : BitVec 4) => r.inbox.find? (fun y => y.typ == typ) = some m
    let u := { s with ring := { r with inbox := r.inbox.erase m } }
    let ends := fun (i : Instr) (code : Nat) (data : Word) => ∃ t, exec i s = .next t
      ∧ t.ring.send = none ∧ t.ring.sendBusy = false ∧ t.ring.sendValid = true ∧ t.ring.sendCode = code
      ∧ t.ring.sendData = data ∧ t.evt.latch.getLsbD 0x457 = true ∧ t = { s with ring := t.ring, evt := t.evt }
    let again := fun (i : Instr) (y : RingSend) => ∃ t, exec i s = .next t ∧ t.ring.send = some y
      ∧ (∀ z ∈ sendMsgs y, { z with rly := false, src := self } ∈ t.ring.outbox)
      ∧ t.ring.sendBusy = r.sendBusy ∧ t = { s with ring := t.ring }
    let post := fun (ms : List RingMsg) (t : State) => { t with ring := { t.ring with outbox := t.ring.outbox ++ ms } }
    let ack := fun (k : BitVec 8) => ({ typ := 1, src := self, dst := m.src, seq := m.seq, arg := k } : RingMsg)
    let result := fun (k : BitVec 8) (w : Word) =>
      ({ typ := 0xA, src := self, dst := m.src, seq := m.seq, arg := k, data := w } : RingMsg)
    let kept := fun (k : BitVec 8) (w : Word) (t : State) => post [result k w] { t with ring := { t.ring with
      lastAcc := (m.src, m.typ, m.seq, k, w) :: t.ring.lastAcc.filter (fun y => y.1 != m.src) } }
    let mine := m.src = x.dst ∧ m.seq = x.seq
    (r.send = some x →
      (x.tries < 3 → again .ringSendTimeout { x with tries := x.tries + 1 })
      ∧ (3 ≤ x.tries → ends .ringSendTimeout 9 0)
      ∧ (takes 1 → x.op = .block → mine →
        (m.arg = 0 → exec .ringAck s = .next { u with ring := { u.ring with send := some { x with acked := true } } })
        ∧ (m.arg = 1 → x.busies < 2 → x.tries < 3 → again .ringAck { x with busies := x.busies + 1, tries := x.tries + 1 })
        ∧ (m.arg = 1 → 2 ≤ x.busies → ends .ringAck 4 0)
        ∧ (m.arg ≠ 0 → m.arg ≠ 1 → x.tries < 3 → again .ringAck { x with tries := x.tries + 1 })
        ∧ (m.arg ≠ 0 → m.arg ≠ 1 → 3 ≤ x.tries → ends .ringAck 9 0))
      ∧ (takes 1 → x.op ≠ .block ∨ ¬ mine → exec .ringAck s = .next u)
      ∧ (takes 7 → x.op = .block → mine → ends .cmdResp 0 m.data)
      ∧ (takes 7 → x.op ≠ .block ∨ ¬ mine → exec .cmdResp s = .next u)
      ∧ (takes 0xA → x.op = .read ∨ x.op = .write → mine →
        (m.arg = 0 → x.addressed = false → ∃ t, exec .ringResult s = .next t
          ∧ t.ring.send = some { x with addressed := true, seq := r.seq + 1, tries := 1 } ∧ t.ring.seq = r.seq + 1
          ∧ t = { s with ring := t.ring })
        ∧ (m.arg = 0 → x.addressed = true → ends .ringResult 0 m.data)
        ∧ (m.arg ≠ 0 → ends .ringResult m.arg.toNat 0))
      ∧ (takes 0xA → ¬ mine → exec .ringResult s = .next u))
    ∧ (r.send = none → exec .ringSendTimeout s = .next s)
    ∧ (takes 6 →
      let old := match r.parts.find? (fun y => y.1 == m.src) with
        | some (_, q, ws) => if q = m.seq then ws else []
        | none => []
      let base := if m.arg.toNat % 16 = 0 then [] else old
      let rest := r.parts.filter (fun y => y.1 != m.src)
      let ws := base ++ [m.data]
      let v := { u with ring := { u.ring with parts := rest } }
      (m.arg.toNat % 16 ≠ base.length → exec .cmdData s = .next (post [ack 2] v))
      ∧ (m.arg.toNat % 16 = base.length → m.arg.toNat < 128 → exec .cmdData s
          = .next { u with ring := { u.ring with parts := (m.src, m.seq, ws) :: rest } })
      ∧ (m.arg.toNat % 16 = base.length → 128 ≤ m.arg.toNat →
        (∀ a resp, r.lastBlk.find? (fun y => y.1 == m.src) = some (a, m.seq, some resp) → exec .cmdData s
          = .next (post [ack 0, { typ := 7, src := self, dst := m.src, seq := m.seq, data := resp }] v))
        ∧ ((∀ y, r.lastBlk.find? (fun z => z.1 == m.src) = some y → y.2.1 ≠ m.seq) →
          (s.cmd.ringMbx.busy = true ∨ s.cmd.ringBlk ≠ none ∨ s.lcy.quiet ≠ none →
            exec .cmdData s = .next (post [ack 1] v))
          ∧ (s.cmd.ringMbx.busy = false → s.cmd.ringBlk = none → s.lcy.quiet = none → exec .cmdData s = .next (post [ack 0]
            { v with
              cmd := { s.cmd with
                ringBlk := some ((List.range 16).map fun k => ws.getD k 0), ringMbx := { busy := true } }
              ring := { v.ring with
                blkFrom := some (m.src, m.seq)
                lastBlk := (m.src, m.seq, none) :: r.lastBlk.filter (fun y => y.1 != m.src) } })))))
    ∧ (∀ p ∈ [((8 : BitVec 4), Instr.ringSetAddr), (9, .ringRead .clean), (0xB, .ringWrite false)], takes p.1 →
      ∀ a k w, r.lastAcc.find? (fun y => y.1 == m.src && y.2.1 == m.typ && y.2.2.1 == m.seq) = some (a, m.typ, m.seq, k, w) →
        exec p.2 s = .next (post [result k w] u))
    ∧ (r.lastAcc.find? (fun y => y.1 == m.src && y.2.1 == m.typ && y.2.2.1 == m.seq) = none →
      let next := fun (t : State) => { t with ring := { t.ring with acc := t.ring.acc + 4 } }
      (takes 8 → m.data.toNat % 4 = 0 → exec .ringSetAddr s = .next (kept 0 0 { u with ring := { u.ring with acc := m.data } }))
      ∧ (takes 8 → m.data.toNat % 4 ≠ 0 → exec .ringSetAddr s = .next (kept 3 0 u))
      ∧ (takes 9 → ∀ e w t, sysRead .ring r.acc.toNat e u = (.ok w, t) → exec (.ringRead e) s = .next (kept 0 w (next t)))
      ∧ (takes 9 → ∀ e t, sysRead .ring r.acc.toNat e u = (.sealed, t) → exec (.ringRead e) s = .next (kept 0xC 0 (next t)))
      ∧ (takes 0xB → ∀ hit w t, sysWrite .ring r.acc.toNat m.data 0xF hit .clean u = (.ok w, t) →
          exec (.ringWrite hit) s = .next (kept 0 0 (next t)))
      ∧ (takes 0xB → ∀ hit t, sysWrite .ring r.acc.toNat m.data 0xF hit .clean u = (.collided, t) →
          exec (.ringWrite hit) s = .next (kept 0xD 0 (next t))))

/-! ### Microphones, wake path, vault -/

/-- R373, R375, R377, R378, R397: a PGA goes 1 dB at a time toward its setting and stays there; a PDM microphone is unmuted 10 ms
after its clock starts, is marked stuck with event 0x486 while its clock runs for a use, and recovers; a bias limit and a clipped
channel set their bits, with events 0x484 and, once a frame, 0x485. Nothing else changes. -/
def Statements.MicrophoneChannels : Prop :=
  ∀ (x : Fin 4) (k : Fin 16) (n : Fin 2) (m : Fin 20) (s : State), live s = true →
    let put := fun (f : MicState) => { s with mic := f }
    let now := s.mic.pga[x]
    let want := fld 0x18 (0x010 + x.val) s
    (now < want → exec (.pgaStep x) s = .next (put { s.mic with pga := s.mic.pga.set x (now + 1) }))
    ∧ (want < now → exec (.pgaStep x) s = .next (put { s.mic with pga := s.mic.pga.set x (now - 1) }))
    ∧ (now = want → exec (.pgaStep x) s = .next s)
    ∧ exec (.pdmStartupMuteEnd k) s = .next (put { s.mic with muted := setBit s.mic.muted k false })
    ∧ exec (.pdmRecover k) s = .next (put { s.mic with stuckNow := setBit s.mic.stuckNow k false })
    ∧ (let used := chEn (4 + k.val) s = true ∨ wakeMic (4 + k.val) s = true
          ∨ (calRunning 5 none s = true ∧ (fld 0x18 0x030 s).testBit (4 + k.val) = true)
       (s.mic.pdmClk.getLsbD (k.val / 8) = true → used → s.mic.stuckNow.getLsbD k = false →
          exec (.pdmStuck k) s = .next (raise 0x486 (put { s.mic with
            stuckNow := setBit s.mic.stuckNow k true, stuck := setBit s.mic.stuck k true })))
       ∧ (s.mic.pdmClk.getLsbD (k.val / 8) = false ∨ ¬ used → exec (.pdmStuck k) s = .next s))
    ∧ (biasOn n.val s = true → exec (.micBiasIlim n) s
        = .next (raise 0x484 (put { s.mic with biasIlim := setBit s.mic.biasIlim n true })))
    ∧ (biasOn n.val s = false → exec (.micBiasIlim n) s = .next s)
    ∧ ((fld 0x18 0x001 s).testBit m.val = true →
        let t := put { s.mic with clip := setBit s.mic.clip m true, clipFrame := true }
        (s.mic.clipFrame = false → exec (.micClip m) s = .next (raise 0x485 t))
        ∧ (s.mic.clipFrame = true → exec (.micClip m) s = .next t))

/-- R384 to R390, R494, R509: the wake path: PTT_N low, once its debounce has armed it, raises events 0x518 and 0x481 and fires the
PTT wake; its release arms it again with event 0x519; the voice detector fires, with event 0x480, at a voice-like block with enough
such blocks among the last, never while it is not armed; each records its reason in WAKE_CAUSE, marks the vault's opening where
it records, and leaves fields, lanes and streams as they are. -/
def Statements.HardwareWakes : Prop :=
  ∀ (ps : List (Word × Word)) (s : State), live s = true → s.sup.vsupUp = true ∨ s.sup.keepOk = true →
    let wakes := fun (o : Host.Outcome State Fault Refusal) (bit : BitVec 7) (voice : Bool) => ∃ t, o = .next t
      ∧ t.sup.wakeCause = s.sup.wakeCause ||| bit
      ∧ (s.sup.modeCur = .listen → t.sup.waking = true)
      ∧ (s.sup.modeCur = .run → t.sup.waking = s.sup.waking)
      ∧ (s.vault.open_ = false → vaultRecords s = true → s.lcy.quiet = none →
          t.vault.open_ = false ∧ (if voice then t.vault.firedVoice = true else t.vault.firedPtt = true)
          ∧ t.vault.valid = min 32000 (s.vault.valid + ps.length) ∧ t.vault.index = (s.vault.index + ps.length) % 32000
          ∧ (s.vault.firedPtt = false → s.vault.firedVoice = false → t.vault.wakeIndex = t.vault.index))
      ∧ (s.vault.open_ = true → s.lcy.quiet = none → t.vault = { s.vault with openLeft := 3000 * fld 0x1A 0x002 s })
      ∧ (∀ a, a < 0x1C00000 ∨ 0x1C40000 ≤ a → byteAt a t = byteAt a s)
      ∧ t.cfg = s.cfg ∧ t.lane = s.lane ∧ t.strm = s.strm ∧ t.flow = s.flow
    (s.wake.pttArmed = false → exec (.pttWake ps) s = .next s)
    ∧ (s.sup.modeCur = .run ∨ s.sup.modeCur = .listen → s.wake.pttArmed = true → s.vault.index < 32000 → s.vault.valid ≤ 32000 →
      wakes (exec (.pttWake ps) s) 2 false
      ∧ ∃ t, exec (.pttWake ps) s = .next t ∧ t.wake = { s.wake with pttLow := true, pttArmed := false } ∧ t.gpio.ptt = true
          ∧ t.evt.latch.getLsbD 0x518 = true ∧ t.evt.latch.getLsbD 0x481 = true)
    ∧ (let t := { s with wake := { s.wake with pttLow := false, pttArmed := true }, gpio := { s.gpio with ptt := false } }
       (s.gpio.ptt = true → exec .pttUp s = .next (raise 0x519 t)) ∧ (s.gpio.ptt = false → exec .pttUp s = .next t))
    ∧ ∀ (lA lB : Int) (pA pB : Nat),
      let m := fun k => fld 0x19 k s
      let heard := fun (k : Nat) => 4 ≤ m k ∧ s.mic.muted.getLsbD (m k - 4) = false ∧ s.mic.stuckNow.getLsbD (m k - 4) = false
      let like := fun (k : Nat) (l : Int) (p : Nat) (fl : Option Int) => heard k ∧ -7000 + 100 * (m 4 : Int) ≤ l
        ∧ fl.getD l + 100 * m 5 ≤ l ∧ 20 + 4 * m 6 ≤ p
      let voiced := like 1 lA pA s.wake.floorA ∨ like 2 lB pB s.wake.floorB
      let blocks := fun (v : Bool) => (v :: s.wake.blocks).take (2 * m 7)
      let block := exec (.voiceBlock lA lB pA pB ps) s
      let floors := fun (t : State) => t.wake.floorA = some (min lA (s.wake.floorA.getD lA + 1))
        ∧ t.wake.floorB = some (min lB (s.wake.floorB.getD lB + 1))
      0 < vaultC s → s.sup.modeCur = .listen ∨ (s.sup.modeCur = .run ∧ m 3 = 1) → calRunning 5 none s = false →
      s.vault.index < 32000 → s.vault.valid ≤ 32000 →
      (voiced → s.wake.armed = true → m 7 ≤ (blocks true).countP id →
        wakes block 1 true ∧ ∃ t, block = .next t ∧ floors t ∧ t.evt.latch.getLsbD 0x480 = true
          ∧ t.wake.blocks = blocks true ∧ t.wake.armed = false ∧ t.wake.quiet = 0)
      ∧ (voiced → s.wake.armed = false → s.wake.quiet < 50 → ∃ t, block = .next t ∧ floors t ∧ t.evt = s.evt
          ∧ t.wake.blocks = blocks true ∧ t.wake.armed = false ∧ t.wake.quiet = 0 ∧ t.sup = s.sup)
      ∧ (¬ voiced → ∃ t, block = .next t ∧ floors t ∧ t.evt = s.evt ∧ t.wake.blocks = blocks false ∧ t.sup = s.sup
          ∧ t.wake.quiet = min 50 (s.wake.quiet + 1) ∧ t.wake.armed = (s.wake.armed || decide (49 ≤ s.wake.quiet)))

/-- R391 to R393: OPEN_LIMIT closes the vault: its contents are gone, with event 0x483, unless an export runs, which it then waits
for; an export copies the samples recorded, oldest first, writes nothing else, and raises event 0x487. -/
def Statements.VaultCloses : Prop :=
  ∀ s : State,
    let sealedAgain := fun (t : State) => t.vault = {
        freezeFrame := s.vault.freezeFrame, wakeIndex := s.vault.wakeIndex, lastIndex := s.vault.lastIndex }
      ∧ (∀ a, 0x1C00000 ≤ a → a < 0x1C40000 → byteAt a t = 0) ∧ t.evt.latch.getLsbD 0x483 = true
    (s.vault.open_ = false → exec .vaultOpenLimit s = .next s)
    ∧ (s.vault.open_ = true → s.vault.exporting = none → ∃ t, exec .vaultOpenLimit s = .next t ∧ sealedAgain t
        ∧ (∀ a, a < 0x1C00000 ∨ 0x1C40000 ≤ a → byteAt a t = byteAt a s)
        ∧ t = { s with vault := t.vault, evt := t.evt, mem := { s.mem with cells := t.mem.cells } })
    ∧ (s.vault.open_ = true → s.vault.exporting ≠ none →
        exec .vaultOpenLimit s = .next { s with vault := { s.vault with resealDue := true } })
    ∧ (s.vault.exporting = none → exec .vaultExportDone s = .next s)
    ∧ (∀ d, s.vault.exporting = some d → s.memWf = true → s.vault.valid ≤ 32000 → s.vault.lastIndex < 32000 → s.vault.chans ≤ 2 →
      d + 4 * (s.vault.chans * s.vault.valid) ≤ 0x1C00000 ∨ 0x1C40000 ≤ d →
      let c := s.vault.chans
      let oldest := s.vault.lastIndex + 1 + 32000 - s.vault.valid
      ∃ t, exec .vaultExportDone s = .next t ∧ t.evt.latch.getLsbD 0x487 = true
        ∧ (∀ i j, i < s.vault.valid → j < c →
            wordAt (d + 4 * (c * i + j)) t = wordAt (0x1C00000 + 4 * (c * ((oldest + i) % 32000) + j)) s)
        ∧ (∀ a, a < d ∨ d + 4 * (c * s.vault.valid) ≤ a → a < 0x1C00000 ∨ 0x1C40000 ≤ a → byteAt a t = byteAt a s)
        ∧ (s.vault.resealDue = true → sealedAgain t)
        ∧ (s.vault.resealDue = false → t.vault = { s.vault with exporting := none }
            ∧ t = { raise 0x487 s with vault := t.vault, mem := { s.mem with cells := t.mem.cells, known := t.mem.known } }))

/-! ### Input converters -/

/-- R406, R408, R410 to R417, R420: the pipeline converters and SARs: a full averaging window and an out-of-range code set their
bits, the latter with event 0x48A once a frame; a periodic scan start begins a scan with the settings in force, or is marked late
while one runs; REFRDY and a conversion move the scan on, an urgent request going first; a result goes to its register, or to the
queue, whose overflow raises event 0x488 + n; the comparators that watch other inputs stay; SAR0's system conversions take turns. -/
def Obligations.Converters : Prop :=
  ∀ (k : Fin 6) (n : Fin 2) (v : BitVec 12) (low mic : Bool) (s : State),
    let pipe := fun (f : PipeState) => { s with pipe := f }
    let ch := if spkParallel s then 0 else k.val / 2
    let powered := if k.val < 4 then (spkAt ch s).state ≠ .off ∧ (spkAt ch s).state ≠ .latched
      else fld 0x32 (0x010 + (k.val - 4)) s = 1
    let b := 0x22 + n.val
    let x := s.sar[n]
    let put := fun (y : SarState) (t : State) => { t with sar := t.sar.set n y }
    let runs := live s = true ∧ (s.sup.modeCur = .run ∨ s.sup.modeCur = .listen)
    let held := (if x.scanning then x.ref else fld b 0x002 s) = 0 ∧ x.refrdy = false
    let begun := { x with
      scanning := true, pos := 0, late := false, trig := false, ref := fld b 0x002 s, seqlen := fld b 0x004 s
      seq := Vector.ofFn fun j : Fin 16 => fld b (0x010 + j.val) s }
    let entry := fun (i pos : Nat) (urg : Bool) => BitVec.ofNat 32
      (2 ^ 31 + urg.toNat * 2 ^ 30 + pos % 16 * 2 ^ 24 + i * 2 ^ 16 + v.toNat)
    let stored := fun (i pos : Nat) (urg : Bool) (t : State) =>
      ((fld b 0x008 s).testBit i = false → t.sar[n].value = vset x.value i v ∧ t.sar[n].new = setBit x.new i true
        ∧ t.sar[n].overrun = setBit x.overrun i (x.overrun.getLsbD i || x.new.getLsbD i)
        ∧ t.sar[n].wasUrgent = setBit x.wasUrgent i urg ∧ t.sar[n].queue = x.queue)
      ∧ ((fld b 0x008 s).testBit i = true → x.queue.length < 64 → t.sar[n].queue = x.queue ++ [entry i pos urg]
        ∧ t.sar[n].value = x.value)
      ∧ ((fld b 0x008 s).testBit i = true → 64 ≤ x.queue.length → t.sar[n].queue = x.queue ∧ t.sar[n].queueOvr = true
        ∧ t.evt.latch.getLsbD (0x488 + n.val) = true)
      ∧ (∀ c : Fin 8, fld b (0x100 + 16 * c.val) s ≠ 1 ∨ fld b (0x101 + 16 * c.val) s ≠ i →
          t.sar[n].run[c] = x.run[c] ∧ t.sar[n].active.getLsbD c = x.active.getLsbD c
            ∧ t.sar[n].fired.getLsbD c = x.fired.getLsbD c)
      ∧ (∀ c : Fin 8, fld b (0x100 + 16 * c.val) s = 1 → fld b (0x101 + 16 * c.val) s = i →
          let inside := fld b (0x102 + 16 * c.val) s ≤ v.toNat ∧ v.toNat ≤ fld b (0x103 + 16 * c.val) s
          let hit := if fld b (0x104 + 16 * c.val) s = 1 then inside else ¬ inside
          let run := if hit then min 16 (x.run[c] + 1) else 0
          t.sar[n].active.getLsbD c = decide hit ∧ t.sar[n].run[c] = run
            ∧ (hit → fld b (0x105 + 16 * c.val) s ≤ run → x.hit.getLsbD c = false →
                t.sar[n].fired.getLsbD c = true ∧ t.evt.latch.getLsbD (0x490 + 8 * n.val + c.val) = true)
            ∧ (¬ hit ∨ run < fld b (0x105 + 16 * c.val) s ∨ x.hit.getLsbD c = true →
                t.sar[n].fired.getLsbD c = x.fired.getLsbD c))
      ∧ (∀ c : Fin 2, c ≠ n → t.sar[c] = s.sar[c])
      ∧ t = { s with sar := t.sar, jack := t.jack, evt := t.evt }
      ∧ (n.val = 1 ∨ i ≠ 1 → t.jack = s.jack)
    (live s = true → powered →
      exec (.pipeAvgWindow k) s = .next (pipe { s.pipe with converged := setBit s.pipe.converged k true })
      ∧ (s.pipe.ovrFrame = false → exec (.pipeOvr k) s
          = .next (raise 0x48A (pipe { s.pipe with ovr := setBit s.pipe.ovr k true, ovrFrame := true })))
      ∧ (s.pipe.ovrFrame = true → exec (.pipeOvr k) s
          = .next (pipe { s.pipe with ovr := setBit s.pipe.ovr k true, ovrFrame := true })))
    ∧ (¬ powered → exec (.pipeAvgWindow k) s = .next s ∧ exec (.pipeOvr k) s = .next s)
    ∧ (runs → fld b 0x001 s = 1 → fld b 0x005 s ≠ 0 →
      (x.scanning = true ∨ held → exec (.sarScanStart n) s = .next (put { x with scanLate := true, late := true } s))
      ∧ (x.scanning = false → ¬ held → sarCal n s = false → exec (.sarScanStart n) s = .next (put begun s)))
    ∧ (fld b 0x001 s = 0 ∨ fld b 0x005 s = 0 → exec (.sarScanStart n) s = .next s)
    ∧ (live s = true → fld b 0x003 s = 1 → x.late = false → x.trig = false →
        exec (.sarRefrdy n) s = .next (put { x with refrdy := true } s))
    ∧ (live s = true → fld b 0x003 s = 1 → x.late = true ∨ x.trig = true → x.scanning = false → fld b 0x001 s = 1 →
        calRunning 1 (some n.val) s = false → exec (.sarRefrdy n) s = .next (put { begun with refrdy := true } s))
    ∧ (runs → ¬ held → sarCal n s = false →
      (∀ i, x.urgent = some i → ∃ t, exec (.sarConversion n v low) s = .next t ∧ stored i.val x.pos true t
        ∧ t.sar[n].urgent = none ∧ t.sar[n].urgNew = true ∧ t.sar[n].urgInput = i.val ∧ t.sar[n].urgValue = v
        ∧ t.sar[n].pos = x.pos ∧ t.sar[n].scanning = x.scanning)
      ∧ (x.urgent = none → x.scanning = false → exec (.sarConversion n v low) s = .next s)
      ∧ (x.urgent = none → x.scanning = true → x.late = false → x.trig = false → ∃ t,
        exec (.sarConversion n v low) s = .next t ∧ stored (vget x.seq x.pos 0 % 16) x.pos false t
        ∧ t.sar[n].scanning = decide (x.pos + 1 < x.seqlen)
        ∧ t.sar[n].pos = if x.pos + 1 < x.seqlen then x.pos + 1 else 0))
    ∧ (let y := s.sar[(0 : Fin 2)]
       runs → sarCal 0 s = false →
        (y.sysTurn = true → exec (.sarSystemConversion v mic) s = .next { s with sar := s.sar.set 0 { y with
          sysTurn := false, sysTemp := 100 + ((v.toNat : Int) - 2048) * 4000 / 6827 } })
        ∧ (y.sysTurn = false → ∃ t, exec (.sarSystemConversion v mic) s = .next t
          ∧ t = { s with jack := t.jack, sar := s.sar.set 0 { y with sysTurn := true, sysJack := v } }
          ∧ (s.jack.state = .disabled → t.jack = s.jack)
          ∧ (s.jack.state = .absent → fld 0x2B 0x002 s = 0 → 2048 ≤ v.toNat →
              t.jack.state = .inserting ∧ t.jack.detRaw = true ∧ t.jack.present = s.jack.present + 1)
          ∧ (s.jack.state = .inserting → fld 0x2B 0x002 s = 0 → v.toNat < 2048 → t.jack.state = .absent)
          ∧ (s.jack.state = .present → fld 0x2B 0x002 s = 0 → v.toNat ≤ 1024 →
              t.jack.detRaw = false ∧ t.jack.absent = s.jack.absent + 1 ∧ t.jack.present = 0)))
    ∧ (∀ e rest, x.queue = e :: rest → exec (.sarQueuePop n) s = .next (put { x with queue := rest } s))
    ∧ (x.queue = [] → exec (.sarQueuePop n) s = .next s)

/-! ### Outputs, tones, headphones and the jack -/

/-- R424, R425, R430, R431, R432, R445: a line output's current limit sets its bits with event 0x4A4 and, held, shuts the output
off; an RDAC takes the oldest code of its queue, or, its queue empty, holds its code with event 0x4A5 once; a stored code joins
the queue of an enabled RDAC, and is dropped where 32 wait; the sounding part of a tone's cycle leads to its pause or to
the next cycle, the last cycle ends with event 0x4A6, and a ramp out ends at rest. Nothing else changes. -/
def Statements.LineOutputsAndTones : Prop :=
  ∀ (x : Fin 2) (k : Fin 8) (w : Word) (s : State),
    let put := fun (f : DacState) => { s with dac := f }
    let enabled := (fld 0x28 0x001 s).testBit x.val = true ∧ s.dac.loutOff.getLsbD x.val = false ∧ s.lcy.quiet = none
    let drives := enabled ∨ 0 < s.dac.loutRamp[x]
    let on := fld 0x28 (0x010 + x.val) s = 1
    let q := s.dac.q[x]
    let g := s.tone[k]
    let tf := fun o => fld 0x29 (0x100 + 16 * k.val + o) s
    let putT := fun (y : ToneGen) (t : State) => { t with tone := t.tone.set k y }
    let sounding := 3 * (if tf 4 = 1 then tf 5 else tf 8)
    let cycleEnds :=
      (tf 7 = 0 ∨ g.cycles + 1 < tf 7 → exec (.tonePhaseEnd k) s
          = .next (putT { g with phase := .on, t := 0, cycles := min 255 (g.cycles + 1) } s))
      ∧ (tf 7 ≠ 0 → tf 7 ≤ g.cycles + 1 → exec (.tonePhaseEnd k) s
          = .next (raise 0x4A6 (putT { g with phase := .done, t := 0, cycles := g.cycles + 1, done := true } s)))
    (drives →
      exec (.loutSc x false) s = .next (put { s.dac with loutLimit := setBit s.dac.loutLimit x.val false })
      ∧ (s.dac.loutLimit.getLsbD x.val = false → exec (.loutSc x true) s = .next (raise 0x4A4 (put { s.dac with
          loutLimit := setBit s.dac.loutLimit x.val true, loutSc := setBit s.dac.loutSc x.val true }))))
    ∧ (enabled → s.dac.loutLimit.getLsbD x.val = true → exec (.loutShutoff x) s = .next (put { s.dac with
          loutOff := setBit s.dac.loutOff x.val true, loutLimit := setBit s.dac.loutLimit x.val false }))
    ∧ (¬ enabled → exec (.loutShutoff x) s = .next s)
    ∧ (¬ drives → ∀ acts, exec (.loutSc x acts) s = .next s)
    ∧ (on →
      (∀ c rest, q = c :: rest → exec (.rdacSample x) s = .next (put { s.dac with
          q := s.dac.q.set x rest, code := s.dac.code.set x (some c), empty := setBit s.dac.empty x.val false }))
      ∧ (q = [] → s.dac.code[x] ≠ none → s.dac.empty.getLsbD x.val = false → exec (.rdacSample x) s
          = .next (raise 0x4A5 (put { s.dac with
              underrun := setBit s.dac.underrun x.val true, empty := setBit s.dac.empty x.val true })))
      ∧ (q = [] → s.dac.code[x] = none ∨ s.dac.empty.getLsbD x.val = true → exec (.rdacSample x) s = .next s)
      ∧ (live s = true → q.length < 32 → exec (.rdacDataStore x w) s
          = .next (put { s.dac with q := s.dac.q.set x (q ++ [BitVec.ofNat 12 w.toNat]) }))
      ∧ (live s = true → 32 ≤ q.length → exec (.rdacDataStore x w) s
          = .next (put { s.dac with ovf := setBit s.dac.ovf x.val true })))
    ∧ (¬ on → exec (.rdacSample x) s = .next s ∧ exec (.rdacDataStore x w) s = .next s)
    ∧ (g.phase = .on → tf 4 ≠ 0 → sounding ≤ g.t →
        (tf 6 ≠ 0 → exec (.tonePhaseEnd k) s = .next (putT { g with phase := .off, t := g.t - sounding } s))
        ∧ (tf 6 = 0 → cycleEnds))
    ∧ (g.phase = .on → tf 4 = 0 ∨ g.t < sounding → exec (.tonePhaseEnd k) s = .next s)
    ∧ (g.phase = .off → 3 * tf 6 ≤ g.t → cycleEnds)
    ∧ (g.phase = .rampOut → g.stopT + 3 * tf 10 ≤ g.t → exec (.tonePhaseEnd k) s = .next (putT { g with phase := .idle, t := 0 } s))

/-- R426 to R428, R435 to R442: the headphone outputs start and stop, the class-H rail goes up for a peak and down after it, a
clip on the fixed low rail and a current limit are marked; a plug that has read present for its debounce time is inserted, typed
by the HS_MIC voltage and reported with event 0x4A0; its removal stops gated outputs and ends with event 0x4A1; a button state
that results agree on is reported with event 0x4A2, and none for 20 ms makes it stale. -/
def Statements.HeadphonesAndJack : Prop :=
  ∀ (mv : Nat) (s : State),
    let hp := fun (f : HpBlk) (t : State) => { t with hp := f }
    let jack := fun (f : JackBlk) => { s with jack := f }
    let h := s.hp
    let j := s.jack
    let auto := fld 0x2A 0x004 s = 0 ∧ h.removal = false
    let drives := h.state = .on ∨ h.state = .stopping
    let gated := fld 0x2A 0x006 s ≠ 0
    let bias := 1800 + 100 * fld 0x18 0x022 s
    let buttons := fld 0x2B 0x005 s = 1 ∧ j.typ = .headset ∧ j.state = .present
    let gone := 1 ≤ j.absent ∧ (1000 ≤ (j.absent - 1) * 40 ∨ (j.openRun = true ∧ 100 ≤ (j.absent - 1) * 40))
    (h.state = .starting → ∃ t, exec .hpStartComplete s = .next t ∧ t.hp.state = .on
        ∧ t.hp.railHigh = false ∧ t = { s with hp := { h with state := .on, railHigh := false, step := t.hp.step } }
        ∧ (fld 0x2A 0x004 s = 1 → t.hp.step = .none) ∧ (fld 0x2A 0x004 s = 2 → h.removal = false → t.hp.step = .up)
        ∧ (fld 0x2A 0x004 s = 0 → glintHpHeld t = false → t.hp.step = .none))
    ∧ (h.state ≠ .starting → exec .hpStartComplete s = .next s)
    ∧ (h.state = .stopping → exec .hpStopComplete s = .next (hp { h with
        state := if fld 0x2A 0x001 s = 1 then .armed else .off, railHigh := false, step := .none, removal := false } s))
    ∧ (h.state ≠ .stopping → exec .hpStopComplete s = .next s)
    ∧ (drives →
      (auto → (h.railHigh = false ∧ h.step = .none) ∨ h.step = .down →
        exec (.hpRailStep .peak) s = .next (hp { h with step := .up } s))
      ∧ (auto → h.railHigh = true → h.step = .none → glintHpHeld s = false →
        exec (.hpRailStep .quiet) s = .next (hp { h with step := .down } s))
      ∧ (h.step = .up → exec (.hpRailStep .settled) s = .next (hp { h with step := .none, railHigh := true } s))
      ∧ (h.step = .down → exec (.hpRailStep .settled) s = .next (hp { h with step := .none, railHigh := false } s))
      ∧ (¬ auto → exec (.hpRailStep .peak) s = .next s ∧ exec (.hpRailStep .quiet) s = .next s)
      ∧ (fld 0x2A 0x004 s = 1 → h.railHigh = false → h.removal = false →
        exec (.hpRailStep .overLow) s = .next (hp { h with clip := true } s))
      ∧ (h.ilimFrame = false → exec .hpIlim s = .next (raise 0x4A3 (hp { h with ilim := true, ilimFrame := true } s)))
      ∧ (h.ilimFrame = true → exec .hpIlim s = .next (hp { h with ilim := true, ilimFrame := true } s)))
    ∧ (¬ drives → exec .hpIlim s = .next s ∧ ∀ e, exec (.hpRailStep e) s = .next s)
    ∧ (let due := 1 ≤ j.present ∧ fld 0x2B 0x003 s * 1000 ≤ (j.present - 1) * 40
      (j.state = .inserting → due →
        (fld 0x18 0x023 s = 1 → exec .jackInserted s = .next (jack { j with state := .detecting, bias := true }))
        ∧ (fld 0x18 0x023 s ≠ 1 → exec .jackInserted s = .next (raise 0x4A0 (jack { j with state := .present, typ := .untested }))))
      ∧ (j.state ≠ .inserting ∨ ¬ due → exec .jackInserted s = .next s))
    ∧ (j.state = .detecting →
      let typed := fun (y : JackType) => exec (.jackTypeDetect mv) s
        = .next (raise 0x4A0 (jack { j with state := .present, typ := y, bias := decide (y = .headset) }))
      (mv < 100 → typed .headphone) ∧ (100 ≤ mv → mv ≤ bias - 100 → typed .headset) ∧ (bias - 100 < mv → typed .line))
    ∧ (gone →
      (j.state = .detecting → exec .jackRemovalConfirmed s
        = .next (jack { j with state := .absent, typ := .none, bias := false, present := 0 }))
      ∧ (j.state = .present → ∃ t, exec .jackRemovalConfirmed s = .next t
        ∧ t.jack = { j with state := .removing, btn := 0, btnCand := 0, btnRun := 0 }
        ∧ (gated → h.state = .on → t.hp.state = .stopping ∧ t.hp.removal = true)
        ∧ (¬ gated → t.hp = h)
        ∧ t = { s with jack := t.jack, hp := t.hp, glint := t.glint }))
    ∧ (¬ gone → exec .jackRemovalConfirmed s = .next s)
    ∧ (j.state = .removing → ∃ t, exec .jackRemovalComplete s = .next t ∧ t.evt = (raise 0x4A1 s).evt
        ∧ t.jack = { j with state := .absent, typ := .none, bias := false, present := 0 }
        ∧ (h.removal = true → h.state = .stopping → t.hp.state = if fld 0x2A 0x001 s = 1 then .armed else .off)
        ∧ (h.removal = false → t.hp = h) ∧ t = { s with jack := t.jack, hp := t.hp, evt := t.evt })
    ∧ (buttons → 2 ≤ j.btnRun → j.btnCand ≠ j.btn → exec .jackButton s = .next (raise 0x4A2 (jack { j with btn := j.btnCand })))
    ∧ (¬ buttons ∨ j.btnRun < 2 ∨ j.btnCand = j.btn → exec .jackButton s = .next s)
    ∧ (buttons →
      let stale := jack { j with btnStale := true, btn := 0, btnCand := 0, btnRun := 0 }
      (j.btn ≠ 0 → exec .jackButtonStale s = .next (raise 0x4A2 stale)) ∧ (j.btn = 0 → exec .jackButtonStale s = .next stale))
    ∧ (¬ buttons → exec .jackButtonStale s = .next s)

/-! ### Speakers -/

/-- R451 to R459, R461, R462, R464: a speaker channel starts, opens its window and runs with event 0x4C8 + x; a limited cycle
counts, and in the start window, or 16 in a row, or 64 in 768 cycles, shuts the channel down; a shutdown waits for its
retry, or after the eighth, or for DC, latches, in a quiet stop it ends off, and an array calibration that plays on the
channel loses its chirp; a retry starts again, a second of running clears the count, a stop ends
off; the impedance reading and the stage's temperature set their values, events and protection. -/
def Statements.SpeakerChannels : Prop :=
  ∀ (x : Fin 2) (gap : Nat) (mag : BitVec 16) (snr : Byte) (temp : Int) (s : State),
    let c := s.spk.ch[x]
    let put := fun (y : SpkCh) (t : State) => { t with spk := { t.spk with ch := t.spk.ch.set x y } }
    let en := fld 0x30 (0x010 + x.val) s = 1 ∧ s.lcy.quiet = none
    let downTo := fun (o : Host.Outcome State Fault Refusal) (cause : SpkCause) => ∃ t, o = .next t
      ∧ t.spk.ch[x].cause = cause ∧ t.spk.ch[x].shutdowns = min 0xFFFF (c.shutdowns + 1) ∧ t.spk.ch[x].window = false
      ∧ t.evt.latch.getLsbD (0x4C0 + x.val) = true
      ∧ (¬ en → t.spk.ch[x].state = .off)
      ∧ (en → cause ≠ .dc → c.retries < 8 → t.spk.ch[x].state = .retryWait ∧ t.spk.ch[x].retries = c.retries + 1)
      ∧ (en → cause = .dc ∨ 8 ≤ c.retries → t.spk.ch[x].state = .latched ∧ t.spk.ch[x].retries = c.retries
          ∧ t.evt.latch.getLsbD (0x4C2 + x.val) = true)
      ∧ (∀ y : Fin 2, y ≠ x → t.spk.ch[y] = s.spk.ch[y])
      ∧ t = { s with
          spk := { s.spk with ch := t.spk.ch }, evt := t.evt
          mic := { s.mic with arrayLost := s.mic.arrayLost || calRunning 5 (some x.val) s } }
    let switching := c.state = .running ∨ c.state = .stopping ∨ c.state = .muted ∨ (c.state = .starting ∧ c.window = true)
    let used := x.val = 0 ∨ fld 0x30 0x001 s ≠ 1
    let consec := if gap = 1 then c.consec + 1 else 1
    let recent := 0 :: (c.recent.map (· + gap)).filter (· < 768)
    let limited := { c with limited := min 0xFFFF (c.limited + 1), ilim := 4, consec := consec, recent := recent }
    let hit := exec (.spkLimitHit x gap) s
    (c.state = .waitBoost → s.boost.pgood = true → exec (.spkStart x) s
        = .next (put { c with state := .starting, window := false, consec := 0, recent := [] } s))
    ∧ (c.state ≠ .waitBoost ∨ s.boost.pgood = false → exec (.spkStart x) s = .next s)
    ∧ (c.state = .starting →
      exec (.spkReleaseEdge x) s = .next (put { c with window := true } s)
      ∧ (c.window = true → s.boost.ovp = false → exec (.spkWindowEnd x) s
          = .next (raise (0x4C8 + x.val) (put { c with state := .running, window := false } s)))
      ∧ (c.window = true → s.boost.ovp = true → exec (.spkWindowEnd x) s
          = .next (raise 0x4C7 (put { c with state := .muted, window := false } s))))
    ∧ (c.state = .stopping → exec (.spkStopComplete x) s = .next (put { c with state := .off, window := false } s))
    ∧ (c.state ≠ .stopping → exec (.spkStopComplete x) s = .next s)
    ∧ (¬ switching ∨ ¬ used → hit = .next s)
    ∧ (switching → used →
      (c.state = .starting → downTo hit .startLimit)
      ∧ (c.state ≠ .starting → 16 ≤ consec → downTo hit .consec)
      ∧ (c.state ≠ .starting → consec < 16 → 64 ≤ recent.length → downTo hit .rate)
      ∧ (c.state ≠ .starting → consec < 16 → recent.length < 64 → hit = .next (put limited s)))
    ∧ (c.state = .running ∨ c.state = .muted → downTo (exec (.spkDcFault x) s) .dc)
    ∧ (c.state = .retryWait → c.cause ≠ .otp →
        exec (.spkRetry x) s = .next (put { c with state := .starting, window := false } s))
    ∧ (c.state = .running → exec (.spkRetriesClear x) s = .next (put { c with retries := 0 } s))
    ∧ (c.state = .running → fld 0x30 (0x016 + x.val) s = 1 → used →
      let read := exec (.spkImpedanceReading x mag snr) s
      let good := put { c with impValid := true, snr := snr.toNat, mag := mag.toNat } s
      let outside := mag.toNat < 16 * fld 0x30 (0x01A + x.val) s ∨ 16 * fld 0x30 (0x01C + x.val) s < mag.toNat
      (snr.toNat < 20 → read = .next (put { c with impValid := false, snr := snr.toNat } s))
      ∧ (20 ≤ snr.toNat → outside → read = .next (raise (0x4C4 + x.val) good))
      ∧ (20 ≤ snr.toNat → ¬ outside → read = .next good))
    ∧ (∃ t, exec (.spkThermal temp) s = .next t ∧ t.spk.temp = temp
      ∧ t.spk.thermWarn = (decide (500 ≤ temp) || (s.spk.thermWarn && decide (460 ≤ temp)))
      ∧ (500 ≤ temp → s.spk.thermWarn = false → t.evt.latch.getLsbD 0x4C6 = true)
      ∧ t.spk.otp = (s.spk.otp || decide (540 ≤ temp))
      ∧ (540 ≤ temp → en → c.state = .running ∨ c.state = .starting ∨ c.state = .muted ∨ c.state = .stopping →
          t.spk.ch[x].state = .retryWait ∧ t.spk.ch[x].cause = .otp ∧ t.spk.ch[x].retries = c.retries
            ∧ t.evt.latch.getLsbD (0x4C0 + x.val) = true)
      ∧ (temp < 540 → t.spk.ch[x] = { c with
          atten := t.spk.ch[x].atten, attenFrom := t.spk.ch[x].attenFrom, attenLeft := t.spk.ch[x].attenLeft })
      ∧ (500 ≤ temp → 12 ≤ t.spk.ch[x].atten)
      ∧ t = { s with spk := t.spk, evt := t.evt, mic := { s.mic with arrayLost := t.mic.arrayLost } })
    ∧ (s.spk.otp = true → s.spk.temp < 460 → ∃ t, exec .spkOtpRestart s = .next t ∧ t.spk.otp = false
      ∧ (c.state = .retryWait → c.cause = .otp → t.spk.ch[x] = { c with state := .starting, window := false })
      ∧ (c.state ≠ .retryWait ∨ c.cause ≠ .otp → t.spk.ch[x] = c)
      ∧ t = { s with spk := t.spk })
    ∧ (s.spk.otp = false ∨ 460 ≤ s.spk.temp → exec .spkOtpRestart s = .next s)

/-! ### Glint, halo, pins -/

/-- R466, R468, R470 to R472, R479, R480: a Glint channel starts and stops; the clamp marks CLIP and raises event 0x4AA + c at most
once a millisecond; an evaluation takes the envelope and, at the threshold with a fast enough rise, fires the duck with event
0x4A8 + c; its hold ended, it releases over 50 ms. The filter's sum is rounded half away from zero and clamped to a PIPE code. -/
def Statements.GlintChannels : Prop :=
  (∀ (c : Fin 2) (env : Byte) (s : State),
    let g := s.glint[c]
    let put := fun (y : GlintCh) (t : State) => { t with glint := t.glint.set c y }
    let rest : GlintCh := { h := g.h, clip := g.clip }
    let f := fun k => fld 0x32 (k + c.val) s
    let e := env.toInt
    let fires := -60 + (f 0x01C : Int) ≤ e ∧ (f 0x01E = 0 ∨ ∃ p, g.hist[63]? = some p ∧ p.toInt + (f 0x01E : Int) ≤ e)
    let ev := exec (.glintDuckEval c env) s
    (g.state = .starting → ∃ t, exec (.glintStartDone c) s = .next t ∧ t.glint = s.glint.set c { g with state := .running }
        ∧ t = { s with glint := t.glint, hp := { s.hp with step := t.hp.step } })
    ∧ (g.state ≠ .starting → exec (.glintStartDone c) s = .next s)
    ∧ (g.state = .stopping → exec (.glintStopDone c) s = .next (put rest s))
    ∧ (g.state ≠ .stopping → exec (.glintStopDone c) s = .next s)
    ∧ (g.state = .running →
      (g.clipWait = 0 → exec (.glintClip c) s = .next (raise (0x4AA + c.val) (put { g with clip := true, clipWait := 8 } s)))
      ∧ (g.clipWait ≠ 0 → exec (.glintClip c) s = .next (put { g with clip := true } s))
      ∧ (∃ t, ev = .next t
        ∧ t.glint[c].env = env ∧ t.glint[c].hist = (env :: g.hist).take 64 ∧ t.glint[c].clipWait = g.clipWait - 1
        ∧ (fires → t.glint[c].ducking = true ∧ t.glint[c].held = true
            ∧ (g.ducking = false → t.evt.latch.getLsbD (0x4A8 + c.val) = true))
        ∧ (¬ fires → g.ducking = false → t.glint[c].ducking = false ∧ t.evt = s.evt)
        ∧ (¬ fires → g.ducking = true → g.held = true → t.glint[c].ducking = true ∧ t.glint[c].held = true)
        ∧ (¬ fires → g.ducking = true → g.held = false →
            t.glint[c].release = g.release - 1 ∧ t.glint[c].ducking = decide (1 < g.release))
        ∧ t.glint[c].below = (if e < -60 + (f 0x01C : Int) then min 8000 (g.below + 1) else 0)
        ∧ t.glint[c].gateHold = (if -60 + (f 0x01A : Int) ≤ e then 400 else g.gateHold - 1)
        ∧ t.glint[c].h = g.h ∧ (∀ y : Fin 2, y ≠ c → t.glint[y] = s.glint[y])
        ∧ t = { s with glint := t.glint, evt := t.evt, hp := { s.hp with step := t.hp.step } })
      ∧ (g.ducking = true → g.held = true → 8 * f 0x024 ≤ g.below →
          exec (.glintDuckHoldEnd c) s = .next (put { g with held := false, release := 400 } s))
      ∧ (g.ducking = false ∨ g.held = false ∨ g.below < 8 * f 0x024 → exec (.glintDuckHoldEnd c) s = .next s)))
  ∧ ∀ (h : Vector (BitVec 16) 64) (xs : List (BitVec 14)),
    let y := glintY h xs
    let a := ((List.range 64).map fun t => (vget h t 0).toInt * (xs.getD t 0).toInt).sum
    2 * (y * 2 ^ 14 - a).natAbs ≤ 2 ^ 14 ∧ (2 * (y * 2 ^ 14 - a).natAbs = 2 ^ 14 → a.natAbs ≤ (y * 2 ^ 14).natAbs)
    ∧ (glintClamp y).1 = max (-8192) (min 8191 y) ∧ ((glintClamp y).2 = true ↔ y < -8192 ∨ 8191 < y)

/-- R487, R488, R490 to R492, R496: an open sink is marked with event 0x460 where its detection applies; a halo frame that starts
inside a tick while the grid is being aligned is lengthened by at most a slot; an edge of a pin that is enabled is marked with
event 0x500 + n, in RUN; a button's press or release shows at once and raises event 0x510 + n, outside RUN once RUN returns. -/
def Statements.HaloAndPins : Prop :=
  (∀ (k : Fin 24) (s : State),
    let lit := ∃ j, j < haloSlots s ∧ 16 ≤ haloShown (24 * j + k.val) s
    let test := s.halo.run = true ∧ fld 0x38 0x008 s = 1 ∧ lit ∧ fld 0x38 (0x020 + k.val) s ≠ 0
    let more := min (12 / haloSlots s) s.halo.offset
    let aligning := ticking s = true ∧ s.halo.run = true ∧ s.halo.rebasing = true ∧ 0 < s.halo.offset ∧ s.halo.left < 12
    (live s = true → test →
      exec (.haloOpen k) s = .next (raise 0x460 { s with halo := { s.halo with open_ := setBit s.halo.open_ k true } }))
    ∧ (¬ test → exec (.haloOpen k) s = .next s)
    ∧ (aligning → exec .haloRebaseFrameStart s = .next { s with halo := { s.halo with
        span := 12 + more, left := s.halo.left + 12 + more, offset := s.halo.offset - more } })
    ∧ (¬ aligning → exec .haloRebaseFrameStart s = .next s))
  ∧ (∀ (n : Fin 16) (high : Bool) (s : State), s.sup.vsupUp = true →
    let level := { s.gpio with level := setBit s.gpio.level n high }
    let e := fld 0x39 (0x030 + n.val) s
    let seen := live s = true ∧ s.sup.modeCur = .run ∧ s.sup.waking = false ∧ fld 0x39 n.val s ≤ 1
      ∧ (if high then e = 1 ∨ e = 3 else e = 2 ∨ e = 3)
    (seen → exec (.gpioEdge n high) s = .next (raise (0x500 + n.val) { s with
        gpio := { level with edgeSeen := setBit s.gpio.edgeSeen n true } }))
    ∧ (¬ seen → exec (.gpioEdge n high) s = .next { s with gpio := level }))
  ∧ ∀ (n : Fin 8) (pressed : Bool) (s : State),
    let taken := live s = true ∧ s.sup.modeCur ≠ .shutdown ∧ fld 0x39 n.val s = 2 ∧ s.gpio.btn.getLsbD n ≠ pressed
    let g := { s.gpio with btn := setBit s.gpio.btn n pressed, level := setBit s.gpio.level n (!pressed) }
    (¬ taken → exec (.btn n pressed) s = .next s)
    ∧ (taken → s.sup.modeCur = .run → s.sup.waking = false →
        exec (.btn n pressed) s = .next (raise (0x510 + n.val) { s with gpio := g }))
    ∧ (taken → s.sup.modeCur ≠ .run ∨ s.sup.waking = true →
        exec (.btn n pressed) s = .next { s with gpio := { g with btnOwed := setBit s.gpio.btnOwed n true } })

/-! ### Statements of several parts -/

/-- The QALU functions: results, saturation and frame, for every agent: the parts, each of which cites its rules, hold
together. -/
def Obligations.QaluFunctions : Prop :=
  Statements.QaluFunctions
  ∧ Statements.LeadingSignRun

/-- Moves, immediates and predicate operations complete in one cycle with their results: the parts, each of which
cites its rules, hold together. -/
def Obligations.MovesAndPredicates : Prop :=
  Statements.MovesAndImmediates
  ∧ Statements.PredicateLogic

/-- The pointer operations and the post-modify, linear and modulo: the parts, each of which cites its rules, hold
together. -/
def Obligations.PointerArithmetic : Prop :=
  Statements.PointerSetUp
  ∧ Statements.PointerPostModify

/-- binary32 results: the NaN, no subnormals, zeros, infinities and conversions to integers: the parts, each of which
cites its rules, hold together. -/
def Obligations.BinaryArithmetic : Prop :=
  Statements.BinaryResultsAreCanonical
  ∧ Statements.BinarySpecialCases
  ∧ Statements.ConversionsToIntegers

/-- LOOP, the loop-back at END and LBRK: the parts, each of which cites its rules, hold together. -/
def Obligations.HardwareLoops : Prop :=
  Statements.LoopEntry
  ∧ Statements.LoopBackAndBreak

/-- Branches and calls, EVT, WAITF and YIELD: the parts, each of which cites its rules, hold together. -/
def Obligations.BranchesAndEvents : Prop :=
  Statements.BranchesAndCalls
  ∧ Statements.EventAndFrameControl

/-- MACP and BQ where every access succeeds: the parts, each of which cites its rules, hold together. -/
def Obligations.FilterSteps : Prop :=
  Statements.MultiplyAccumulateFromMemory
  ∧ Statements.BiquadStep

/-- SGET, SPUT, BSEND, SRD and SWR on streams that name the context: the parts, each of which cites its rules, hold
together. -/
def Obligations.StreamInstructions : Prop :=
  Statements.SamplesAndSends
  ∧ Statements.FrameTransfers

/-- Faults and overruns of a context: when they come and what they leave: the parts, each of which cites its rules,
hold together. -/
def Obligations.ContextFaults : Prop :=
  Statements.ContextFaultEffect
  ∧ Statements.OverrunPreempts
  ∧ Statements.FetchOutsideTheRegion
  ∧ Statements.AccessAndStreamFaults

/-- The RAM scrubber, and the end of a quarter's change of state: the parts, each of which cites its rules, hold
together. -/
def Obligations.RamAndBanks : Prop :=
  Statements.RamScrubbing
  ∧ Statements.BankTransitionEnds

/-- The Glacier store: programming a row, and the scrubber: the parts, each of which cites its rules, hold together.
-/
def Obligations.GlacierStore : Prop :=
  Statements.GlacierRowProgramming
  ∧ Statements.GlacierScrubbing

/-- Each reset source, its cause and what it adds; the priority of causes: the parts, each of which cites its rules,
hold together. -/
def Obligations.ResetSources : Prop :=
  Statements.ResetSources
  ∧ Statements.CausePriority

/-- Bring-up from release to the fuse map load, and the completion of an interrupted erase: the parts, each of which
cites its rules, hold together. -/
def Obligations.BringUp : Prop :=
  Statements.BringUpBegins
  ∧ Statements.FuseMapLoad
  ∧ Statements.InterruptedEraseCompletes

/-- The supply monitor, the sag step, the boost, the regulators and the keep capacitor: the parts, each of which cites
its rules, hold together. -/
def Obligations.SupplyAndBoost : Prop :=
  Statements.SupplySamples
  ∧ Statements.SagStepFalls
  ∧ Statements.BoostEvents
  ∧ Statements.RegulatorsAndKeepCharge

/-- BANKPWR and BRESET: the parts, each of which cites its rules, hold together. -/
def Obligations.BanksAndBlockResets : Prop :=
  Statements.BankStateWords
  ∧ Statements.BlockResets

/-- LOAD, CALRUN and SEAL: the entry into a perform phase and its ends: the parts, each of which cites its rules, hold
together. -/
def Obligations.PerformPhases : Prop :=
  Statements.PerformEntry
  ∧ Statements.PerformPhases

/-- The frame tick: what it applies, counts, starts and exchanges: the parts, each of which cites its rules, hold
together. -/
def Obligations.FrameBoundary : Prop :=
  Statements.FrameTick
  ∧ Statements.FrameExchange

/-- The host window and the completion of aperture writes: the parts, each of which cites its rules, hold together. -/
def Obligations.HostWindowAndAperture : Prop :=
  Statements.HostWindow
  ∧ Statements.ApertureWrites

/-- Port queues and slips, tracking banks, and the states of a slave port: the parts, each of which cites its rules,
hold together. -/
def Obligations.SerialPorts : Prop :=
  Statements.QueuesOfAPort
  ∧ Statements.TrackingBanks
  ∧ Statements.SlavePorts

/-- USB: attach, bus reset, suspend, resume and remote wake: the parts, each of which cites its rules, hold together.
-/
def Obligations.UsbDevice : Prop :=
  Statements.UsbAttachAndReset
  ∧ Statements.UsbSuspendAndWake

/-- USB: standard, audio, HID and vendor requests: the parts, each of which cites its rules, hold together. -/
def Obligations.UsbRequests : Prop :=
  Statements.UsbRequests
  ∧ Statements.UsbVendorRequests

/-- USB: isochronous packets and feedback, and firmware upgrade: the parts, each of which cites its rules, hold
together. -/
def Obligations.UsbTransfers : Prop :=
  Statements.UsbPackets
  ∧ Statements.DeviceFirmwareUpgrade

/-- Ring frames at a forwarding node and at the master: the parts, each of which cites its rules, hold together. -/
def Obligations.RingFrames : Prop :=
  Statements.RingForwarding
  ∧ Statements.RingMasterFrames

/-- The states of a ring node, and its messages: the parts, each of which cites its rules, hold together. -/
def Obligations.RingNodes : Prop :=
  Statements.RingTraining
  ∧ Statements.RingMessages

/-- Microphone channels, hardware wakes and the firn vault: the parts, each of which cites its rules, hold together.
-/
def Obligations.MicrophonesWakeVault : Prop :=
  Statements.MicrophoneChannels
  ∧ Statements.HardwareWakes
  ∧ Statements.VaultCloses

/-- Line outputs, RDACs, tones, headphones and the jack: the parts, each of which cites its rules, hold together. -/
def Obligations.AudioOutputs : Prop :=
  Statements.LineOutputsAndTones
  ∧ Statements.HeadphonesAndJack

/-- Speaker channels, Glint channels, the halo and the pins: the parts, each of which cites its rules, hold together.
-/
def Obligations.SpeakersGlintHalo : Prop :=
  Statements.SpeakerChannels
  ∧ Statements.GlintChannels
  ∧ Statements.HaloAndPins
end

