-- ==== Sys2Proof/Laws/Sparse.lean ====
section
/-! SUPPORT. Sparse maps: what a read gives after a write, and that a write and a drop keep the canonical form. -/

namespace Sys2Proof.Machine

variable {α : Type} [DecidableEq α]

/-- A canonical map is canonical from every lower bound. -/
theorem smWfFrom_mono {d : Nat → α} {m : SMap α} {lo lo' : Nat} (h : lo' ≤ lo) (hm : smWfFrom d lo m = true) :
    smWfFrom d lo' m = true := by
  cases m with
  | nil => rfl
  | cons p m =>
    simp only [smWfFrom, Bool.and_eq_true, decide_eq_true_eq] at hm ⊢
    exact ⟨⟨by omega, hm.1.2⟩, hm.2⟩

/-- Below its bound a canonical map lists nothing. -/
theorem smGet_below {d : Nat → α} {m : SMap α} {lo k : Nat} (d' : α) (hm : smWfFrom d lo m = true) (h : k < lo) :
    smGet d' k m = d' := by
  induction m generalizing lo with
  | nil => rfl
  | cons p m ih =>
    simp only [smWfFrom, Bool.and_eq_true, decide_eq_true_eq] at hm
    simp only [smGet]
    rw [if_neg (by omega)]
    exact ih hm.2 (by omega)

/-- A read of another key. -/
theorem smGet_smSet_ne (d : α) {k k' : Nat} (v : α) (m : SMap α) (h : k' ≠ k) :
    smGet d k' (smSet d k v m) = smGet d k' m := by
  induction m with
  | nil =>
    simp only [smSet]
    split <;> simp [smGet, h]
  | cons p m ih =>
    simp only [smSet]
    split
    · split
      · rfl
      · simp [smGet, h]
    · split
      · next hk =>
        split
        · simp only [smGet]
          rw [if_neg (by omega)]
        · simp only [smGet]
          rw [if_neg h, if_neg (by omega)]
      · simp only [smGet, ih]

/-- A value other than the default is read back, whatever the map. -/
theorem smGet_smSet_of_ne {d : α} (k : Nat) {v : α} (m : SMap α) (h : v ≠ d) : smGet d k (smSet d k v m) = v := by
  induction m with
  | nil => simp [smSet, h, smGet]
  | cons p m ih =>
    simp only [smSet, h, if_false]
    split
    · simp [smGet]
    · split
      · simp [smGet]
      · simp only [smGet]
        rw [if_neg (by assumption), ih]

/-- In a canonical map every written value is read back. -/
theorem smGet_smSet_self {d : Nat → α} {m : SMap α} {lo : Nat} (k : Nat) (v : α) (hm : smWfFrom d lo m = true) :
    smGet (d k) k (smSet (d k) k v m) = v := by
  by_cases h : v = d k
  · subst h
    induction m generalizing lo with
    | nil => simp [smSet, smGet]
    | cons p m ih =>
      simp only [smWfFrom, Bool.and_eq_true, decide_eq_true_eq] at hm
      simp only [smSet, if_true]
      split
      · simp only [smGet]
        rw [if_neg (by omega)]
        exact smGet_below _ hm.2 (by omega)
      · split
        · exact smGet_below _ hm.2 (by omega)
        · simp only [smGet]
          rw [if_neg (by assumption), ih hm.2]
  · exact smGet_smSet_of_ne k m h

/-- A write keeps the canonical form. -/
theorem smWfFrom_smSet {d : Nat → α} {m : SMap α} {lo k : Nat} (v : α) (hk : lo ≤ k) (hm : smWfFrom d lo m = true) :
    smWfFrom d lo (smSet (d k) k v m) = true := by
  induction m generalizing lo with
  | nil =>
    simp only [smSet]
    split
    · rfl
    · simp [smWfFrom, *]
  | cons p m ih =>
    have hm' := hm
    simp only [smWfFrom, Bool.and_eq_true, decide_eq_true_eq] at hm
    simp only [smSet]
    split
    · split
      · exact hm'
      · simp only [smWfFrom, Bool.and_eq_true, decide_eq_true_eq]
        exact ⟨⟨hk, by assumption⟩, ⟨by omega, hm.1.2⟩, hm.2⟩
    · split
      · next h =>
        subst h
        split
        · exact smWfFrom_mono (by omega) hm.2
        · simp only [smWfFrom, Bool.and_eq_true, decide_eq_true_eq]
          exact ⟨⟨hk, by assumption⟩, hm.2⟩
      · simp only [smWfFrom, Bool.and_eq_true, decide_eq_true_eq]
        exact ⟨hm.1, ih (by omega) hm.2⟩

/-- A write keeps the canonical form. -/
theorem smWf_smSet {d : Nat → α} {m : SMap α} (k : Nat) (v : α) (hm : smWf d m = true) :
    smWf d (smSet (d k) k v m) = true := smWfFrom_smSet v (Nat.zero_le k) hm

/-- Dropping a range keeps the canonical form. -/
theorem smWfFrom_smDrop {d : Nat → α} {m : SMap α} {lo : Nat} (a b : Nat) (hm : smWfFrom d lo m = true) :
    smWfFrom d lo (smDrop a b m) = true := by
  induction m generalizing lo with
  | nil => rfl
  | cons p m ih =>
    simp only [smWfFrom, Bool.and_eq_true, decide_eq_true_eq] at hm
    simp only [smDrop, List.filter_cons]
    split
    · simp only [smWfFrom, Bool.and_eq_true, decide_eq_true_eq]
      exact ⟨hm.1, ih hm.2⟩
    · exact smWfFrom_mono (by omega) (ih hm.2)

/-- Dropping a range keeps the canonical form. -/
theorem smWf_smDrop {d : Nat → α} {m : SMap α} (a b : Nat) (hm : smWf d m = true) : smWf d (smDrop a b m) = true :=
  smWfFrom_smDrop a b hm

omit [DecidableEq α] in
/-- A read of a key in a dropped range gives the default; of any other key what it gave. -/
theorem smGet_smDrop (d : α) (a b k : Nat) (m : SMap α) :
    smGet d k (smDrop a b m) = if a ≤ k ∧ k < b then d else smGet d k m := by
  induction m with
  | nil => simp [smDrop, smGet]
  | cons p m ih =>
    simp only [smDrop, List.filter_cons] at ih ⊢
    by_cases hk : k = p.1
    · by_cases hp : a ≤ p.1 ∧ p.1 < b
      · simp only [hp, decide_true, Bool.and_self, Bool.not_true, Bool.false_eq_true, if_false, ih]
        rw [if_pos (by omega), if_pos (by omega)]
      · rw [if_pos (by simp; omega), if_neg (by omega)]
        simp [smGet, hk]
    · split
      · simp only [smGet, if_neg hk, ih]
      · simp only [ih, smGet, if_neg hk]

end Sys2Proof.Machine
end

