-- ==== Sys2Proof/Laws/State.lean ====
section
/-! SUPPORT. What the shared operations leave of each field of the state: one lemma for each operation and field. -/

namespace Sys2Proof.Machine

/-! ### `raise` latches an event and leaves every field but `evt` -/

@[simp] theorem raise_sup (n : Nat) (s : State) : (raise n s).sup = s.sup := rfl
@[simp] theorem raise_boost (n : Nat) (s : State) : (raise n s).boost = s.boost := rfl
@[simp] theorem raise_clk (n : Nat) (s : State) : (raise n s).clk = s.clk := rfl
@[simp] theorem raise_rst (n : Nat) (s : State) : (raise n s).rst = s.rst := rfl
@[simp] theorem raise_lcy (n : Nat) (s : State) : (raise n s).lcy = s.lcy := rfl
@[simp] theorem raise_dbg (n : Nat) (s : State) : (raise n s).dbg = s.dbg := rfl
@[simp] theorem raise_pin (n : Nat) (s : State) : (raise n s).pin = s.pin := rfl
@[simp] theorem raise_twh (n : Nat) (s : State) : (raise n s).twh = s.twh := rfl
@[simp] theorem raise_twc (n : Nat) (s : State) : (raise n s).twc = s.twc := rfl
@[simp] theorem raise_win (n : Nat) (s : State) : (raise n s).win = s.win := rfl
@[simp] theorem raise_cmd (n : Nat) (s : State) : (raise n s).cmd = s.cmd := rfl
@[simp] theorem raise_lane (n : Nat) (s : State) : (raise n s).lane = s.lane := rfl
@[simp] theorem raise_stw (n : Nat) (s : State) : (raise n s).stw = s.stw := rfl
@[simp] theorem raise_mem (n : Nat) (s : State) : (raise n s).mem = s.mem := rfl
@[simp] theorem raise_strm (n : Nat) (s : State) : (raise n s).strm = s.strm := rfl
@[simp] theorem raise_sp (n : Nat) (s : State) : (raise n s).sp = s.sp := rfl
@[simp] theorem raise_usb (n : Nat) (s : State) : (raise n s).usb = s.usb := rfl
@[simp] theorem raise_ring (n : Nat) (s : State) : (raise n s).ring = s.ring := rfl
@[simp] theorem raise_mic (n : Nat) (s : State) : (raise n s).mic = s.mic := rfl
@[simp] theorem raise_wake (n : Nat) (s : State) : (raise n s).wake = s.wake := rfl
@[simp] theorem raise_vault (n : Nat) (s : State) : (raise n s).vault = s.vault := rfl
@[simp] theorem raise_out (n : Nat) (s : State) : (raise n s).out = s.out := rfl
@[simp] theorem raise_dac (n : Nat) (s : State) : (raise n s).dac = s.dac := rfl
@[simp] theorem raise_tone (n : Nat) (s : State) : (raise n s).tone = s.tone := rfl
@[simp] theorem raise_hp (n : Nat) (s : State) : (raise n s).hp = s.hp := rfl
@[simp] theorem raise_jack (n : Nat) (s : State) : (raise n s).jack = s.jack := rfl
@[simp] theorem raise_aadc (n : Nat) (s : State) : (raise n s).aadc = s.aadc := rfl
@[simp] theorem raise_pipe (n : Nat) (s : State) : (raise n s).pipe = s.pipe := rfl
@[simp] theorem raise_sar (n : Nat) (s : State) : (raise n s).sar = s.sar := rfl
@[simp] theorem raise_spk (n : Nat) (s : State) : (raise n s).spk = s.spk := rfl
@[simp] theorem raise_glint (n : Nat) (s : State) : (raise n s).glint = s.glint := rfl
@[simp] theorem raise_halo (n : Nat) (s : State) : (raise n s).halo = s.halo := rfl
@[simp] theorem raise_gpio (n : Nat) (s : State) : (raise n s).gpio = s.gpio := rfl
@[simp] theorem raise_cfg (n : Nat) (s : State) : (raise n s).cfg = s.cfg := rfl
@[simp] theorem raise_flow (n : Nat) (s : State) : (raise n s).flow = s.flow := rfl
@[simp] theorem raise_free (n : Nat) (s : State) : (raise n s).free = s.free := rfl
@[simp] theorem raise_pending (n : Nat) (s : State) : (raise n s).pending = s.pending := rfl

/-! ### `setCtx` replaces a context and leaves every field but `lane` -/

@[simp] theorem setCtx_sup (n : Nat) (c : Ctx) (s : State) : (setCtx n c s).sup = s.sup := rfl
@[simp] theorem setCtx_boost (n : Nat) (c : Ctx) (s : State) : (setCtx n c s).boost = s.boost := rfl
@[simp] theorem setCtx_clk (n : Nat) (c : Ctx) (s : State) : (setCtx n c s).clk = s.clk := rfl
@[simp] theorem setCtx_rst (n : Nat) (c : Ctx) (s : State) : (setCtx n c s).rst = s.rst := rfl
@[simp] theorem setCtx_lcy (n : Nat) (c : Ctx) (s : State) : (setCtx n c s).lcy = s.lcy := rfl
@[simp] theorem setCtx_dbg (n : Nat) (c : Ctx) (s : State) : (setCtx n c s).dbg = s.dbg := rfl
@[simp] theorem setCtx_pin (n : Nat) (c : Ctx) (s : State) : (setCtx n c s).pin = s.pin := rfl
@[simp] theorem setCtx_twh (n : Nat) (c : Ctx) (s : State) : (setCtx n c s).twh = s.twh := rfl
@[simp] theorem setCtx_twc (n : Nat) (c : Ctx) (s : State) : (setCtx n c s).twc = s.twc := rfl
@[simp] theorem setCtx_win (n : Nat) (c : Ctx) (s : State) : (setCtx n c s).win = s.win := rfl
@[simp] theorem setCtx_evt (n : Nat) (c : Ctx) (s : State) : (setCtx n c s).evt = s.evt := rfl
@[simp] theorem setCtx_cmd (n : Nat) (c : Ctx) (s : State) : (setCtx n c s).cmd = s.cmd := rfl
@[simp] theorem setCtx_stw (n : Nat) (c : Ctx) (s : State) : (setCtx n c s).stw = s.stw := rfl
@[simp] theorem setCtx_mem (n : Nat) (c : Ctx) (s : State) : (setCtx n c s).mem = s.mem := rfl
@[simp] theorem setCtx_strm (n : Nat) (c : Ctx) (s : State) : (setCtx n c s).strm = s.strm := rfl
@[simp] theorem setCtx_sp (n : Nat) (c : Ctx) (s : State) : (setCtx n c s).sp = s.sp := rfl
@[simp] theorem setCtx_usb (n : Nat) (c : Ctx) (s : State) : (setCtx n c s).usb = s.usb := rfl
@[simp] theorem setCtx_ring (n : Nat) (c : Ctx) (s : State) : (setCtx n c s).ring = s.ring := rfl
@[simp] theorem setCtx_mic (n : Nat) (c : Ctx) (s : State) : (setCtx n c s).mic = s.mic := rfl
@[simp] theorem setCtx_wake (n : Nat) (c : Ctx) (s : State) : (setCtx n c s).wake = s.wake := rfl
@[simp] theorem setCtx_vault (n : Nat) (c : Ctx) (s : State) : (setCtx n c s).vault = s.vault := rfl
@[simp] theorem setCtx_out (n : Nat) (c : Ctx) (s : State) : (setCtx n c s).out = s.out := rfl
@[simp] theorem setCtx_dac (n : Nat) (c : Ctx) (s : State) : (setCtx n c s).dac = s.dac := rfl
@[simp] theorem setCtx_tone (n : Nat) (c : Ctx) (s : State) : (setCtx n c s).tone = s.tone := rfl
@[simp] theorem setCtx_hp (n : Nat) (c : Ctx) (s : State) : (setCtx n c s).hp = s.hp := rfl
@[simp] theorem setCtx_jack (n : Nat) (c : Ctx) (s : State) : (setCtx n c s).jack = s.jack := rfl
@[simp] theorem setCtx_aadc (n : Nat) (c : Ctx) (s : State) : (setCtx n c s).aadc = s.aadc := rfl
@[simp] theorem setCtx_pipe (n : Nat) (c : Ctx) (s : State) : (setCtx n c s).pipe = s.pipe := rfl
@[simp] theorem setCtx_sar (n : Nat) (c : Ctx) (s : State) : (setCtx n c s).sar = s.sar := rfl
@[simp] theorem setCtx_spk (n : Nat) (c : Ctx) (s : State) : (setCtx n c s).spk = s.spk := rfl
@[simp] theorem setCtx_glint (n : Nat) (c : Ctx) (s : State) : (setCtx n c s).glint = s.glint := rfl
@[simp] theorem setCtx_halo (n : Nat) (c : Ctx) (s : State) : (setCtx n c s).halo = s.halo := rfl
@[simp] theorem setCtx_gpio (n : Nat) (c : Ctx) (s : State) : (setCtx n c s).gpio = s.gpio := rfl
@[simp] theorem setCtx_cfg (n : Nat) (c : Ctx) (s : State) : (setCtx n c s).cfg = s.cfg := rfl
@[simp] theorem setCtx_flow (n : Nat) (c : Ctx) (s : State) : (setCtx n c s).flow = s.flow := rfl
@[simp] theorem setCtx_free (n : Nat) (c : Ctx) (s : State) : (setCtx n c s).free = s.free := rfl
@[simp] theorem setCtx_pending (n : Nat) (c : Ctx) (s : State) : (setCtx n c s).pending = s.pending := rfl

/-! ### `setStrm` replaces a stream and leaves every field but `strm` -/

@[simp] theorem setStrm_sup (n : Nat) (x : Stream) (s : State) : (setStrm n x s).sup = s.sup := rfl
@[simp] theorem setStrm_boost (n : Nat) (x : Stream) (s : State) : (setStrm n x s).boost = s.boost := rfl
@[simp] theorem setStrm_clk (n : Nat) (x : Stream) (s : State) : (setStrm n x s).clk = s.clk := rfl
@[simp] theorem setStrm_rst (n : Nat) (x : Stream) (s : State) : (setStrm n x s).rst = s.rst := rfl
@[simp] theorem setStrm_lcy (n : Nat) (x : Stream) (s : State) : (setStrm n x s).lcy = s.lcy := rfl
@[simp] theorem setStrm_dbg (n : Nat) (x : Stream) (s : State) : (setStrm n x s).dbg = s.dbg := rfl
@[simp] theorem setStrm_pin (n : Nat) (x : Stream) (s : State) : (setStrm n x s).pin = s.pin := rfl
@[simp] theorem setStrm_twh (n : Nat) (x : Stream) (s : State) : (setStrm n x s).twh = s.twh := rfl
@[simp] theorem setStrm_twc (n : Nat) (x : Stream) (s : State) : (setStrm n x s).twc = s.twc := rfl
@[simp] theorem setStrm_win (n : Nat) (x : Stream) (s : State) : (setStrm n x s).win = s.win := rfl
@[simp] theorem setStrm_evt (n : Nat) (x : Stream) (s : State) : (setStrm n x s).evt = s.evt := rfl
@[simp] theorem setStrm_cmd (n : Nat) (x : Stream) (s : State) : (setStrm n x s).cmd = s.cmd := rfl
@[simp] theorem setStrm_lane (n : Nat) (x : Stream) (s : State) : (setStrm n x s).lane = s.lane := rfl
@[simp] theorem setStrm_stw (n : Nat) (x : Stream) (s : State) : (setStrm n x s).stw = s.stw := rfl
@[simp] theorem setStrm_mem (n : Nat) (x : Stream) (s : State) : (setStrm n x s).mem = s.mem := rfl
@[simp] theorem setStrm_sp (n : Nat) (x : Stream) (s : State) : (setStrm n x s).sp = s.sp := rfl
@[simp] theorem setStrm_usb (n : Nat) (x : Stream) (s : State) : (setStrm n x s).usb = s.usb := rfl
@[simp] theorem setStrm_ring (n : Nat) (x : Stream) (s : State) : (setStrm n x s).ring = s.ring := rfl
@[simp] theorem setStrm_mic (n : Nat) (x : Stream) (s : State) : (setStrm n x s).mic = s.mic := rfl
@[simp] theorem setStrm_wake (n : Nat) (x : Stream) (s : State) : (setStrm n x s).wake = s.wake := rfl
@[simp] theorem setStrm_vault (n : Nat) (x : Stream) (s : State) : (setStrm n x s).vault = s.vault := rfl
@[simp] theorem setStrm_out (n : Nat) (x : Stream) (s : State) : (setStrm n x s).out = s.out := rfl
@[simp] theorem setStrm_dac (n : Nat) (x : Stream) (s : State) : (setStrm n x s).dac = s.dac := rfl
@[simp] theorem setStrm_tone (n : Nat) (x : Stream) (s : State) : (setStrm n x s).tone = s.tone := rfl
@[simp] theorem setStrm_hp (n : Nat) (x : Stream) (s : State) : (setStrm n x s).hp = s.hp := rfl
@[simp] theorem setStrm_jack (n : Nat) (x : Stream) (s : State) : (setStrm n x s).jack = s.jack := rfl
@[simp] theorem setStrm_aadc (n : Nat) (x : Stream) (s : State) : (setStrm n x s).aadc = s.aadc := rfl
@[simp] theorem setStrm_pipe (n : Nat) (x : Stream) (s : State) : (setStrm n x s).pipe = s.pipe := rfl
@[simp] theorem setStrm_sar (n : Nat) (x : Stream) (s : State) : (setStrm n x s).sar = s.sar := rfl
@[simp] theorem setStrm_spk (n : Nat) (x : Stream) (s : State) : (setStrm n x s).spk = s.spk := rfl
@[simp] theorem setStrm_glint (n : Nat) (x : Stream) (s : State) : (setStrm n x s).glint = s.glint := rfl
@[simp] theorem setStrm_halo (n : Nat) (x : Stream) (s : State) : (setStrm n x s).halo = s.halo := rfl
@[simp] theorem setStrm_gpio (n : Nat) (x : Stream) (s : State) : (setStrm n x s).gpio = s.gpio := rfl
@[simp] theorem setStrm_cfg (n : Nat) (x : Stream) (s : State) : (setStrm n x s).cfg = s.cfg := rfl
@[simp] theorem setStrm_flow (n : Nat) (x : Stream) (s : State) : (setStrm n x s).flow = s.flow := rfl
@[simp] theorem setStrm_free (n : Nat) (x : Stream) (s : State) : (setStrm n x s).free = s.free := rfl
@[simp] theorem setStrm_pending (n : Nat) (x : Stream) (s : State) : (setStrm n x s).pending = s.pending := rfl

/-! ### `setByte` writes a byte and leaves every field but `mem` -/

@[simp] theorem setByte_sup (a : Nat) (b : Byte) (s : State) : (setByte a b s).sup = s.sup := rfl
@[simp] theorem setByte_boost (a : Nat) (b : Byte) (s : State) : (setByte a b s).boost = s.boost := rfl
@[simp] theorem setByte_clk (a : Nat) (b : Byte) (s : State) : (setByte a b s).clk = s.clk := rfl
@[simp] theorem setByte_rst (a : Nat) (b : Byte) (s : State) : (setByte a b s).rst = s.rst := rfl
@[simp] theorem setByte_lcy (a : Nat) (b : Byte) (s : State) : (setByte a b s).lcy = s.lcy := rfl
@[simp] theorem setByte_dbg (a : Nat) (b : Byte) (s : State) : (setByte a b s).dbg = s.dbg := rfl
@[simp] theorem setByte_pin (a : Nat) (b : Byte) (s : State) : (setByte a b s).pin = s.pin := rfl
@[simp] theorem setByte_twh (a : Nat) (b : Byte) (s : State) : (setByte a b s).twh = s.twh := rfl
@[simp] theorem setByte_twc (a : Nat) (b : Byte) (s : State) : (setByte a b s).twc = s.twc := rfl
@[simp] theorem setByte_win (a : Nat) (b : Byte) (s : State) : (setByte a b s).win = s.win := rfl
@[simp] theorem setByte_evt (a : Nat) (b : Byte) (s : State) : (setByte a b s).evt = s.evt := rfl
@[simp] theorem setByte_cmd (a : Nat) (b : Byte) (s : State) : (setByte a b s).cmd = s.cmd := rfl
@[simp] theorem setByte_lane (a : Nat) (b : Byte) (s : State) : (setByte a b s).lane = s.lane := rfl
@[simp] theorem setByte_stw (a : Nat) (b : Byte) (s : State) : (setByte a b s).stw = s.stw := rfl
@[simp] theorem setByte_strm (a : Nat) (b : Byte) (s : State) : (setByte a b s).strm = s.strm := rfl
@[simp] theorem setByte_sp (a : Nat) (b : Byte) (s : State) : (setByte a b s).sp = s.sp := rfl
@[simp] theorem setByte_usb (a : Nat) (b : Byte) (s : State) : (setByte a b s).usb = s.usb := rfl
@[simp] theorem setByte_ring (a : Nat) (b : Byte) (s : State) : (setByte a b s).ring = s.ring := rfl
@[simp] theorem setByte_mic (a : Nat) (b : Byte) (s : State) : (setByte a b s).mic = s.mic := rfl
@[simp] theorem setByte_wake (a : Nat) (b : Byte) (s : State) : (setByte a b s).wake = s.wake := rfl
@[simp] theorem setByte_vault (a : Nat) (b : Byte) (s : State) : (setByte a b s).vault = s.vault := rfl
@[simp] theorem setByte_out (a : Nat) (b : Byte) (s : State) : (setByte a b s).out = s.out := rfl
@[simp] theorem setByte_dac (a : Nat) (b : Byte) (s : State) : (setByte a b s).dac = s.dac := rfl
@[simp] theorem setByte_tone (a : Nat) (b : Byte) (s : State) : (setByte a b s).tone = s.tone := rfl
@[simp] theorem setByte_hp (a : Nat) (b : Byte) (s : State) : (setByte a b s).hp = s.hp := rfl
@[simp] theorem setByte_jack (a : Nat) (b : Byte) (s : State) : (setByte a b s).jack = s.jack := rfl
@[simp] theorem setByte_aadc (a : Nat) (b : Byte) (s : State) : (setByte a b s).aadc = s.aadc := rfl
@[simp] theorem setByte_pipe (a : Nat) (b : Byte) (s : State) : (setByte a b s).pipe = s.pipe := rfl
@[simp] theorem setByte_sar (a : Nat) (b : Byte) (s : State) : (setByte a b s).sar = s.sar := rfl
@[simp] theorem setByte_spk (a : Nat) (b : Byte) (s : State) : (setByte a b s).spk = s.spk := rfl
@[simp] theorem setByte_glint (a : Nat) (b : Byte) (s : State) : (setByte a b s).glint = s.glint := rfl
@[simp] theorem setByte_halo (a : Nat) (b : Byte) (s : State) : (setByte a b s).halo = s.halo := rfl
@[simp] theorem setByte_gpio (a : Nat) (b : Byte) (s : State) : (setByte a b s).gpio = s.gpio := rfl
@[simp] theorem setByte_cfg (a : Nat) (b : Byte) (s : State) : (setByte a b s).cfg = s.cfg := rfl
@[simp] theorem setByte_flow (a : Nat) (b : Byte) (s : State) : (setByte a b s).flow = s.flow := rfl
@[simp] theorem setByte_free (a : Nat) (b : Byte) (s : State) : (setByte a b s).free = s.free := rfl
@[simp] theorem setByte_pending (a : Nat) (b : Byte) (s : State) : (setByte a b s).pending = s.pending := rfl

/-! ### `setFldK` puts a field in force and leaves every field but `cfg` -/

@[simp] theorem setFldK_sup (key val : Nat) (s : State) : (setFldK key val s).sup = s.sup := rfl
@[simp] theorem setFldK_boost (key val : Nat) (s : State) : (setFldK key val s).boost = s.boost := rfl
@[simp] theorem setFldK_clk (key val : Nat) (s : State) : (setFldK key val s).clk = s.clk := rfl
@[simp] theorem setFldK_rst (key val : Nat) (s : State) : (setFldK key val s).rst = s.rst := rfl
@[simp] theorem setFldK_lcy (key val : Nat) (s : State) : (setFldK key val s).lcy = s.lcy := rfl
@[simp] theorem setFldK_dbg (key val : Nat) (s : State) : (setFldK key val s).dbg = s.dbg := rfl
@[simp] theorem setFldK_pin (key val : Nat) (s : State) : (setFldK key val s).pin = s.pin := rfl
@[simp] theorem setFldK_twh (key val : Nat) (s : State) : (setFldK key val s).twh = s.twh := rfl
@[simp] theorem setFldK_twc (key val : Nat) (s : State) : (setFldK key val s).twc = s.twc := rfl
@[simp] theorem setFldK_win (key val : Nat) (s : State) : (setFldK key val s).win = s.win := rfl
@[simp] theorem setFldK_evt (key val : Nat) (s : State) : (setFldK key val s).evt = s.evt := rfl
@[simp] theorem setFldK_cmd (key val : Nat) (s : State) : (setFldK key val s).cmd = s.cmd := rfl
@[simp] theorem setFldK_lane (key val : Nat) (s : State) : (setFldK key val s).lane = s.lane := rfl
@[simp] theorem setFldK_stw (key val : Nat) (s : State) : (setFldK key val s).stw = s.stw := rfl
@[simp] theorem setFldK_mem (key val : Nat) (s : State) : (setFldK key val s).mem = s.mem := rfl
@[simp] theorem setFldK_strm (key val : Nat) (s : State) : (setFldK key val s).strm = s.strm := rfl
@[simp] theorem setFldK_sp (key val : Nat) (s : State) : (setFldK key val s).sp = s.sp := rfl
@[simp] theorem setFldK_usb (key val : Nat) (s : State) : (setFldK key val s).usb = s.usb := rfl
@[simp] theorem setFldK_ring (key val : Nat) (s : State) : (setFldK key val s).ring = s.ring := rfl
@[simp] theorem setFldK_mic (key val : Nat) (s : State) : (setFldK key val s).mic = s.mic := rfl
@[simp] theorem setFldK_wake (key val : Nat) (s : State) : (setFldK key val s).wake = s.wake := rfl
@[simp] theorem setFldK_vault (key val : Nat) (s : State) : (setFldK key val s).vault = s.vault := rfl
@[simp] theorem setFldK_out (key val : Nat) (s : State) : (setFldK key val s).out = s.out := rfl
@[simp] theorem setFldK_dac (key val : Nat) (s : State) : (setFldK key val s).dac = s.dac := rfl
@[simp] theorem setFldK_tone (key val : Nat) (s : State) : (setFldK key val s).tone = s.tone := rfl
@[simp] theorem setFldK_hp (key val : Nat) (s : State) : (setFldK key val s).hp = s.hp := rfl
@[simp] theorem setFldK_jack (key val : Nat) (s : State) : (setFldK key val s).jack = s.jack := rfl
@[simp] theorem setFldK_aadc (key val : Nat) (s : State) : (setFldK key val s).aadc = s.aadc := rfl
@[simp] theorem setFldK_pipe (key val : Nat) (s : State) : (setFldK key val s).pipe = s.pipe := rfl
@[simp] theorem setFldK_sar (key val : Nat) (s : State) : (setFldK key val s).sar = s.sar := rfl
@[simp] theorem setFldK_spk (key val : Nat) (s : State) : (setFldK key val s).spk = s.spk := rfl
@[simp] theorem setFldK_glint (key val : Nat) (s : State) : (setFldK key val s).glint = s.glint := rfl
@[simp] theorem setFldK_halo (key val : Nat) (s : State) : (setFldK key val s).halo = s.halo := rfl
@[simp] theorem setFldK_gpio (key val : Nat) (s : State) : (setFldK key val s).gpio = s.gpio := rfl
@[simp] theorem setFldK_flow (key val : Nat) (s : State) : (setFldK key val s).flow = s.flow := rfl
@[simp] theorem setFldK_free (key val : Nat) (s : State) : (setFldK key val s).free = s.free := rfl
@[simp] theorem setFldK_pending (key val : Nat) (s : State) : (setFldK key val s).pending = s.pending := rfl

/-! ### `addFlow` adds a committed change and leaves every field but `flow` -/

@[simp] theorem addFlow_sup (c : FlowChange) (s : State) : (addFlow c s).sup = s.sup := rfl
@[simp] theorem addFlow_boost (c : FlowChange) (s : State) : (addFlow c s).boost = s.boost := rfl
@[simp] theorem addFlow_clk (c : FlowChange) (s : State) : (addFlow c s).clk = s.clk := rfl
@[simp] theorem addFlow_rst (c : FlowChange) (s : State) : (addFlow c s).rst = s.rst := rfl
@[simp] theorem addFlow_lcy (c : FlowChange) (s : State) : (addFlow c s).lcy = s.lcy := rfl
@[simp] theorem addFlow_dbg (c : FlowChange) (s : State) : (addFlow c s).dbg = s.dbg := rfl
@[simp] theorem addFlow_pin (c : FlowChange) (s : State) : (addFlow c s).pin = s.pin := rfl
@[simp] theorem addFlow_twh (c : FlowChange) (s : State) : (addFlow c s).twh = s.twh := rfl
@[simp] theorem addFlow_twc (c : FlowChange) (s : State) : (addFlow c s).twc = s.twc := rfl
@[simp] theorem addFlow_win (c : FlowChange) (s : State) : (addFlow c s).win = s.win := rfl
@[simp] theorem addFlow_evt (c : FlowChange) (s : State) : (addFlow c s).evt = s.evt := rfl
@[simp] theorem addFlow_cmd (c : FlowChange) (s : State) : (addFlow c s).cmd = s.cmd := rfl
@[simp] theorem addFlow_lane (c : FlowChange) (s : State) : (addFlow c s).lane = s.lane := rfl
@[simp] theorem addFlow_stw (c : FlowChange) (s : State) : (addFlow c s).stw = s.stw := rfl
@[simp] theorem addFlow_mem (c : FlowChange) (s : State) : (addFlow c s).mem = s.mem := rfl
@[simp] theorem addFlow_strm (c : FlowChange) (s : State) : (addFlow c s).strm = s.strm := rfl
@[simp] theorem addFlow_sp (c : FlowChange) (s : State) : (addFlow c s).sp = s.sp := rfl
@[simp] theorem addFlow_usb (c : FlowChange) (s : State) : (addFlow c s).usb = s.usb := rfl
@[simp] theorem addFlow_ring (c : FlowChange) (s : State) : (addFlow c s).ring = s.ring := rfl
@[simp] theorem addFlow_mic (c : FlowChange) (s : State) : (addFlow c s).mic = s.mic := rfl
@[simp] theorem addFlow_wake (c : FlowChange) (s : State) : (addFlow c s).wake = s.wake := rfl
@[simp] theorem addFlow_vault (c : FlowChange) (s : State) : (addFlow c s).vault = s.vault := rfl
@[simp] theorem addFlow_out (c : FlowChange) (s : State) : (addFlow c s).out = s.out := rfl
@[simp] theorem addFlow_dac (c : FlowChange) (s : State) : (addFlow c s).dac = s.dac := rfl
@[simp] theorem addFlow_tone (c : FlowChange) (s : State) : (addFlow c s).tone = s.tone := rfl
@[simp] theorem addFlow_hp (c : FlowChange) (s : State) : (addFlow c s).hp = s.hp := rfl
@[simp] theorem addFlow_jack (c : FlowChange) (s : State) : (addFlow c s).jack = s.jack := rfl
@[simp] theorem addFlow_aadc (c : FlowChange) (s : State) : (addFlow c s).aadc = s.aadc := rfl
@[simp] theorem addFlow_pipe (c : FlowChange) (s : State) : (addFlow c s).pipe = s.pipe := rfl
@[simp] theorem addFlow_sar (c : FlowChange) (s : State) : (addFlow c s).sar = s.sar := rfl
@[simp] theorem addFlow_spk (c : FlowChange) (s : State) : (addFlow c s).spk = s.spk := rfl
@[simp] theorem addFlow_glint (c : FlowChange) (s : State) : (addFlow c s).glint = s.glint := rfl
@[simp] theorem addFlow_halo (c : FlowChange) (s : State) : (addFlow c s).halo = s.halo := rfl
@[simp] theorem addFlow_gpio (c : FlowChange) (s : State) : (addFlow c s).gpio = s.gpio := rfl
@[simp] theorem addFlow_cfg (c : FlowChange) (s : State) : (addFlow c s).cfg = s.cfg := rfl
@[simp] theorem addFlow_free (c : FlowChange) (s : State) : (addFlow c s).free = s.free := rfl
@[simp] theorem addFlow_pending (c : FlowChange) (s : State) : (addFlow c s).pending = s.pending := rfl

/-! ### What they write -/

@[simp] theorem raise_latch (n : Nat) (s : State) : (raise n s).evt.latch = setBit s.evt.latch n true := rfl
@[simp] theorem setCtx_ctx (n : Nat) (c : Ctx) (s : State) : (setCtx n c s).lane.ctx = smSet {} n c s.lane.ctx := rfl
@[simp] theorem setStrm_s (n : Nat) (x : Stream) (s : State) : (setStrm n x s).strm.s = smSet {} n x s.strm.s := rfl
@[simp] theorem setByte_cells (a : Nat) (b : Byte) (s : State) :
    (setByte a b s).mem.cells = smSet 0 a b s.mem.cells := rfl
@[simp] theorem setFldK_cfg (key val : Nat) (s : State) :
    (setFldK key val s).cfg = smSet (fieldReset key) key val s.cfg := rfl
@[simp] theorem addFlow_flow (c : FlowChange) (s : State) : (addFlow c s).flow = s.flow ++ [c] := rfl

/-- `raiseIf` changes nothing but the event latches. -/
theorem raiseIf_frame (c : Bool) (n : Nat) (s : State) : raiseIf c n s = { s with evt := (raiseIf c n s).evt } := by
  cases c <;> rfl

/-! ### Values the spec leaves open -/

@[simp] theorem takeFree_fst (s : State) : (takeFree s).1 = Config.freeWord s.free := rfl

/-- Taking an open value only advances the counter. -/
@[simp] theorem takeFree_snd (s : State) : (takeFree s).2 = { s with free := s.free + 1 } := rfl

/-- The code of a failure that the spec does not name is one of Table 00.5, and taking it only advances the counter. -/
theorem takeCode_spec (s : State) :
    1 ≤ (takeCode s).1 ∧ (takeCode s).1 ≤ 14 ∧ (takeCode s).2 = { s with free := s.free + 1 } :=
  ⟨by simp [takeCode], by simp only [takeCode]; omega, rfl⟩

end Sys2Proof.Machine
end

