-- ==== Sys2Proof/Laws/Memory.lean ====
section
/-! SUPPORT. Memory: reads after writes, and that every memory operation keeps the canonical form. -/

namespace Sys2Proof.Machine

/-- The canonical form, unfolded to the sparse map's. -/
theorem memWf_iff (s : State) : s.memWf = true ↔ smWf (fun _ => (0 : Byte)) s.mem.cells = true := Iff.rfl

/-! ### Reads after writes -/

theorem byteAt_setByte_ne {a x : Nat} (b : Byte) (s : State) (h : x ≠ a) : byteAt x (setByte a b s) = byteAt x s :=
  smGet_smSet_ne 0 b s.mem.cells h

theorem byteAt_setByte_self {s : State} (a : Nat) (b : Byte) (h : s.memWf = true) : byteAt a (setByte a b s) = b :=
  smGet_smSet_self (d := fun _ => (0 : Byte)) a b h

theorem setByte_memWf {s : State} (a : Nat) (b : Byte) (h : s.memWf = true) : (setByte a b s).memWf = true :=
  smWf_smSet (d := fun _ => (0 : Byte)) a b h

theorem setBytes_memWf {s : State} (a : Nat) (bs : List Byte) (h : s.memWf = true) : (setBytes a bs s).memWf = true := by
  induction bs generalizing a s with
  | nil => exact h
  | cons b bs ih => exact ih (a + 1) (setByte_memWf a b h)

/-- A byte outside the bytes written reads as before. -/
theorem byteAt_setBytes_out {x : Nat} (a : Nat) (bs : List Byte) (s : State) (h : x < a ∨ a + bs.length ≤ x) :
    byteAt x (setBytes a bs s) = byteAt x s := by
  induction bs generalizing a s with
  | nil => rfl
  | cons b bs ih =>
    simp only [List.length_cons] at h
    rw [setBytes, ih (a + 1) _ (by omega), byteAt_setByte_ne _ _ (by omega)]

/-- A byte of the bytes written. -/
theorem byteAt_setBytes_in {s : State} (a : Nat) (bs : List Byte) (k : Nat) (hk : k < bs.length) (h : s.memWf = true) :
    byteAt (a + k) (setBytes a bs s) = bs[k] := by
  induction bs generalizing a s k with
  | nil => simp at hk
  | cons b bs ih =>
    cases k with
    | zero =>
      rw [setBytes, byteAt_setBytes_out _ _ _ (by omega)]
      simpa using byteAt_setByte_self a b h
    | succ k =>
      have hk' : k < bs.length := by simpa using hk
      have := ih (a + 1) k hk' (setByte_memWf a b h)
      rw [setBytes, show a + (k + 1) = a + 1 + k by omega, this]
      simp

theorem setWord_memWf {s : State} (a : Nat) (w : Word) (h : s.memWf = true) : (setWord a w s).memWf = true :=
  setBytes_memWf a _ h

/-- A byte outside the word written reads as before. -/
theorem byteAt_setWord_out {x : Nat} (a : Nat) (w : Word) (s : State) (h : x < a ∨ a + 4 ≤ x) :
    byteAt x (setWord a w s) = byteAt x s := byteAt_setBytes_out a _ s (by simpa [leBytes] using h)

/-- The word written is read back. -/
theorem wordAt_setWord_self {s : State} (a : Nat) (w : Word) (h : s.memWf = true) : wordAt a (setWord a w s) = w := by
  have b : ∀ k (hk : k < 4), byteAt (a + k) (setWord a w s) = (leBytes w)[k] :=
    fun k hk => byteAt_setBytes_in a (leBytes w) k hk h
  have b0 := b 0 (by omega)
  have b1 := b 1 (by omega)
  have b2 := b 2 (by omega)
  have b3 := b 3 (by omega)
  simp only [Nat.add_zero] at b0
  unfold wordAt
  rw [b0, b1, b2, b3]
  simp only [leBytes, List.getElem_cons_zero, List.getElem_cons_succ]
  apply BitVec.eq_of_getLsbD_eq
  intro i hi
  simp only [BitVec.getLsbD_append, BitVec.getLsbD_setWidth, BitVec.getLsbD_ushiftRight]
  grind

/-- A word that the word written does not touch reads as before. -/
theorem wordAt_setWord_out {x : Nat} (a : Nat) (w : Word) (s : State) (h : x + 4 ≤ a ∨ a + 4 ≤ x) :
    wordAt x (setWord a w s) = wordAt x s := by
  unfold wordAt
  rw [byteAt_setWord_out _ _ _ (by omega), byteAt_setWord_out _ _ _ (by omega), byteAt_setWord_out _ _ _ (by omega),
    byteAt_setWord_out _ _ _ (by omega)]

theorem zeroRange_memWf {s : State} (lo hi : Nat) (h : s.memWf = true) : (zeroRange lo hi s).memWf = true :=
  smWf_smDrop (d := fun _ => (0 : Byte)) lo hi h

/-- After a range is zeroed its bytes read 0 and every other byte as before. -/
theorem byteAt_zeroRange (lo hi a : Nat) (s : State) :
    byteAt a (zeroRange lo hi s) = if lo ≤ a ∧ a < hi then 0 else byteAt a s := smGet_smDrop 0 lo hi a s.mem.cells

/-! ### Every other operation that writes memory keeps the canonical form -/

theorem setWords_memWf {s : State} (a : Nat) (ws : List Word) (h : s.memWf = true) : (setWords a ws s).memWf = true := by
  induction ws generalizing a s with
  | nil => exact h
  | cons w ws ih => exact ih (a + 4) (setWord_memWf a w h)

/-- A byte outside the words written reads as before. -/
theorem byteAt_setWords_out {x : Nat} (a : Nat) (ws : List Word) (s : State) (h : x < a ∨ a + 4 * ws.length ≤ x) :
    byteAt x (setWords a ws s) = byteAt x s := by
  induction ws generalizing a s with
  | nil => rfl
  | cons w ws ih =>
    simp only [List.length_cons] at h
    rw [setWords, ih (a + 4) _ (by omega), byteAt_setWord_out _ _ _ (by omega)]

theorem ramWriteWords_memWf {s : State} (a : Nat) (ws : List Word) (h : s.memWf = true) :
    (ramWriteWords a ws s).memWf = true := setWords_memWf a ws h

theorem ramWrite_memWf {s : State} (a : Nat) (w : Word) (be : BitVec 4) (h : s.memWf = true) :
    (ramWrite a w be s).memWf = true := by
  have hp : (if be = 0xF then ((0 : Word), s) else ramWord a s).2.memWf = true := by
    unfold ramWord
    split
    · exact h
    · split <;> exact h
  unfold ramWrite
  generalize (if be = 0xF then ((0 : Word), s) else ramWord a s) = p at hp
  exact setWord_memWf a _ hp

theorem glProgramWord_memWf {s : State} (e : Nat × Word) (h : s.memWf = true) : (glProgramWord e s).memWf = true :=
  setWord_memWf e.1 e.2 h

/-- Words of the Glacier store that a rule picks are programmed one after the other. -/
theorem foldl_glProgramWord_memWf {α : Type} (pick : α → Bool) (word : α → Nat × Word) (l : List α) {s : State}
    (h : s.memWf = true) :
    (l.foldl (fun t x => if pick x then glProgramWord (word x) t else t) s).memWf = true := by
  induction l generalizing s with
  | nil => exact h
  | cons x l ih =>
    refine ih ?_
    dsimp only
    split
    · exact glProgramWord_memWf _ h
    · exact h

theorem glProgramRow_memWf {s : State} (h : s.memWf = true) : (glProgramRow s).memWf = true := by
  unfold glProgramRow
  split
  · exact h
  · exact foldl_glProgramWord_memWf (fun _ => true) id _ h

/-- A reset that interrupts the row being programmed leaves each of its words old or new. -/
theorem glInterrupt_memWf {s : State} (h : s.memWf = true) : (glInterrupt s).memWf = true := by
  unfold glInterrupt
  split
  · exact h
  · exact foldl_glProgramWord_memWf (fun e : (Nat × Word) × Nat => (takeFree s).1.getLsbD e.2) (fun e => e.1) _ h

theorem glPush_memWf {s : State} (a : Nat) (w : Word) (h : s.memWf = true) : (glPush a w s).memWf = true := by
  unfold glPush
  split
  · exact h
  · split
    · exact glProgramRow_memWf h
    · exact h

end Sys2Proof.Machine
end

