-- ==== Sys2Proof/Laws/Issue.lean ====
section
/-! SUPPORT. The issue of an instruction, said once: what an instruction that issues leaves, and what one that cannot
issue, does not fit, or lies outside its code region leaves. -/

namespace Sys2Proof.Machine

/-! ### Contexts in the table -/

theorem ctxAt_setCtx_ne {m n : Nat} (c : Ctx) (s : State) (h : m ≠ n) : ctxAt m (setCtx n c s) = ctxAt m s :=
  smGet_smSet_ne _ c s.lane.ctx h

/-- A context that is not FREE is read back. -/
theorem ctxAt_setCtx_self (n : Nat) {c : Ctx} (s : State) (h : c.st ≠ .free) : ctxAt n (setCtx n c s) = c :=
  smGet_smSet_of_ne n s.lane.ctx (by rintro rfl; exact h rfl)

theorem ctxReady_st {n : Nat} {s : State} (h : ctxReady n s = true) : (ctxAt n s).st = .running := by
  simp only [ctxReady, Bool.and_eq_true, beq_iff_eq] at h
  exact h.1.2

/-- Charging cycles changes only the context's count. -/
theorem ctxAt_charge {n : Nat} (cyc : Nat) {s : State} (h : (ctxAt n s).st = .running) :
    ctxAt n (charge n cyc s) = { ctxAt n s with used := (ctxAt n s).used + cyc } :=
  ctxAt_setCtx_self n s (by simp [h])

theorem ctxAt_openTurn {n : Nat} {s : State} (h : (ctxAt n s).st = .running) :
    ctxAt n (openTurn n s) = { ctxAt n s with used := (ctxAt n s).used + 12 } := ctxAt_charge 12 h

/-- The quarter of an address depends on the banks' power, the mode and nothing else. -/
theorem addrOn_charge (a n cyc : Nat) (s : State) : addrOn a (charge n cyc s) = addrOn a s := rfl

theorem addrOn_openTurn (a n : Nat) (s : State) : addrOn a (openTurn n s) = addrOn a s := rfl

theorem vget_vset_self {α : Type} {n : Nat} (v : Vector α n) (k : Nat) (x d : α) (h : k < n) :
    vget (vset v k x) k d = x := by
  simp [vget, vset, h]

theorem vget_vset_ne {α : Type} {n : Nat} (v : Vector α n) (j k : Nat) (x d : α) (h : j ≠ k) :
    vget (vset v k x) j d = vget v j d := by
  simp only [vget, vset]
  by_cases hj : j < n
  · simp [hj, Ne.symm h]
  · simp [hj]

/-- After the 12 switch cycles the instruction fits where both fit before. -/
theorem fits_openTurn {n cyc : Nat} {s : State} (hl : laneOf n < 16) (h : (ctxAt n s).st = .running) :
    fits n cyc (openTurn n s) = fits n (12 + cyc) s := by
  have hc := ctxAt_openTurn h
  have hu : vget (openTurn n s).lane.usedNow (laneOf n) 0 = vget s.lane.usedNow (laneOf n) 0 + 12 :=
    vget_vset_self _ _ _ _ hl
  have hb : budgetNow n (openTurn n s) = budgetNow n s := rfl
  have hf : frameCycles (openTurn n s) = frameCycles s := rfl
  simp only [fits, hc, hu, hb, hf]
  simp only [Nat.add_assoc]

theorem fits_mono {n a b : Nat} {s : State} (hab : a ≤ b) (h : fits n b s = true) : fits n a s = true := by
  simp only [fits, Bool.and_eq_true, decide_eq_true_eq] at h ⊢
  omega

theorem laneOf_lt (n : Fin 1024) : laneOf n.val < 16 := by
  simp only [laneOf]
  omega

/-- The registers that an agent's instruction sees are those it had before its cycles were charged. -/
theorem agentRegs_charged {who : Agent} {cyc : Nat} {s : State} (h : Issues who cyc s) :
    agentRegs who (charged who cyc s) = agentRegs who s := by
  cases who with
  | steward => rfl
  | ctx n =>
    have hs := ctxReady_st h.1
    simp only [agentRegs, charged]
    split
    · rw [ctxAt_charge cyc hs]
    · rw [ctxAt_charge cyc (by rw [ctxAt_openTurn hs]; exact hs), ctxAt_openTurn hs]

theorem ctxAt_charged {n : Fin 1024} {cyc : Nat} {s : State} (h : Issues (.ctx n) cyc s) :
    ∃ k, ctxAt n (charged (.ctx n) cyc s) = { ctxAt n s with used := k } := by
  have hs := ctxReady_st h.1
  simp only [charged]
  split
  · exact ⟨_, ctxAt_charge cyc hs⟩
  · exact ⟨_, by rw [ctxAt_charge cyc (by rw [ctxAt_openTurn hs]; exact hs), ctxAt_openTurn hs]⟩

/-! ### The issue -/

/-- A context's instruction that issues acts on the charged state. -/
theorem issueCtx_issues {n : Fin 1024} {cyc : Nat} {s : State} (f : RegSet → State → Act) (h : Issues (.ctx n) cyc s) :
    issueCtx n cyc f s
      = ctxFinish n (f (ctxAt n s).regs (charged (.ctx n) cyc s)) (charged (.ctx n) cyc s) := by
  obtain ⟨hr, hpc, hon, hf⟩ := h
  have hs := ctxReady_st hr
  have inner : ∀ u : State, (ctxAt n u).st = .running → (ctxAt n u).regs = (ctxAt n s).regs →
      (ctxAt n u).words = (ctxAt n s).words → (ctxAt n u).code = (ctxAt n s).code →
      (∀ a, addrOn a u = addrOn a s) → fits n cyc u = true →
      ctxInstr n cyc f u = ctxFinish n (f (ctxAt n s).regs (charge n cyc u)) (charge n cyc u) := by
    intro u _ h2 h3 h4 h5 h6
    simp [ctxInstr, h2, h3, h4, h5, h6, hon, Nat.not_le.mpr hpc]
  simp only [issueCtx, hr, Bool.not_true, Bool.false_eq_true, if_false, charged]
  split at hf
  · next ht =>
    simp only [ht, if_true]
    exact inner s hs rfl rfl rfl (fun _ => rfl) (by simpa using hf)
  · next ht =>
    have h12 : fits n 12 s = true := fits_mono (by omega) hf
    simp only [ht, h12, Bool.not_true, Bool.false_eq_true, if_false]
    have hc := ctxAt_openTurn hs
    exact inner (openTurn n s) (by rw [hc]; exact hs) (by rw [hc]) (by rw [hc]) (by rw [hc]) (fun _ => rfl)
      (by rw [fits_openTurn (laneOf_lt n) hs]; exact hf)

/-- The steward's instruction that issues acts once a debug step is used up. -/
theorem issueStw_issues {cyc : Nat} {s : State} (f : RegSet → State → Act) (h : Issues .steward cyc s) :
    issueStw f s =
      match f s.stw.regs (charged .steward cyc s) with
      | .done r g t => { t with stw.regs := r.advance g }
      | .waitf => stwHalt 8 (charged .steward cyc s)
      | .yield => stwHalt 8 (charged .steward cyc s)
      | .stop (.fault c) t => stwHalt c t
      | .stop .lost t => stwHalt 4 t := by
  obtain ⟨hr, hpc⟩ := h
  have hp : ¬ stwWords ≤ (useStep s).stw.regs.pc := Nat.not_le.mpr hpc
  simp only [issueStw, hr, Bool.not_true, Bool.false_eq_true, if_false, charged, hp]
  rfl

/-- An instruction that issues and completes. -/
theorem issue_done {who : Agent} {cyc : Nat} {s t : State} {f : RegSet → State → Act} {r : RegSet} {g : Go}
    (h : Issues who cyc s) (hf : f (agentRegs who s) (charged who cyc s) = .done r g t) :
    issue who true cyc f s = putRegs who (r.advance g) t := by
  cases who with
  | ctx n =>
    simp only [issue, if_true]
    rw [issueCtx_issues f h]
    simp only [agentRegs] at hf
    rw [hf]
    rfl
  | steward =>
    simp only [issue, if_true]
    rw [issueStw_issues (cyc := cyc) _ h]
    simp only [agentRegs] at hf
    rw [hf]
    rfl

/-- An instruction that issues and faults. -/
theorem issue_fault {who : Agent} {cyc code : Nat} {s t : State} {f : RegSet → State → Act}
    (h : Issues who cyc s) (hf : f (agentRegs who s) (charged who cyc s) = .stop (.fault code) t) :
    issue who true cyc f s = faulted who code t := by
  cases who with
  | ctx n =>
    simp only [issue, if_true]
    rw [issueCtx_issues f h]
    simp only [agentRegs] at hf
    rw [hf]
    rfl
  | steward =>
    simp only [issue, if_true]
    rw [issueStw_issues (cyc := cyc) _ h]
    simp only [agentRegs] at hf
    rw [hf]
    rfl

/-- A one-cycle instruction that only changes registers. -/
theorem compute_issues {who : Agent} {s : State} (f : RegSet → RegSet) (h : Issues who 1 s) :
    compute who f s = putRegs who ((f (agentRegs who s)).advance .fall) (charged who 1 s) :=
  issue_done h rfl

/-- Where the context is not the one its lane runs now, nothing happens. -/
theorem issueCtx_not_ready {n cyc : Nat} {s : State} (f : RegSet → State → Act) (h : ctxReady n s = false) :
    issueCtx n cyc f s = s := by
  simp [issueCtx, h]

/-- In a turn, an instruction outside the code region faults with FETCH. -/
theorem issueCtx_fetch {n cyc : Nat} {s : State} (f : RegSet → State → Act) (hr : ctxReady n s = true)
    (ht : s.lane.turn.getLsbD (laneOf n) = true) (hw : (ctxAt n s).words ≤ (ctxAt n s).regs.pc) :
    issueCtx n cyc f s = ctxFault n 1 s := by
  simp [issueCtx, hr, ht, ctxInstr, hw]

/-- An instruction, or a turn, that does not fit overruns its context. -/
theorem issueCtx_overrun {n cyc : Nat} {s : State} (f : RegSet → State → Act) (hr : ctxReady n s = true)
    (hpc : (ctxAt n s).regs.pc < (ctxAt n s).words)
    (hon : addrOn ((ctxAt n s).code + 4 * (ctxAt n s).regs.pc) s = true)
    (h1 : s.lane.turn.getLsbD (laneOf n) = true → fits n cyc s = false)
    (h2 : s.lane.turn.getLsbD (laneOf n) = false → fits n 12 s = false) :
    issueCtx n cyc f s = overrun n s := by
  cases ht : s.lane.turn.getLsbD (laneOf n)
  · simp [issueCtx, hr, ht, h2 ht]
  · simp [issueCtx, hr, ht, ctxInstr, Nat.not_le.mpr hpc, hon, h1 ht]

end Sys2Proof.Machine
end

