-- ==== Sys2Proof/Machine/Balls.lean ====
section
/-! DEFINITION. The state of every ball (R33 to R40, Tables 02.2 to 02.6): the configurable balls through their phases, and
the balls without a fuse index. A signal is named, not its waveform. -/

namespace Sys2Proof.Machine

/-! ### What a function makes of its ball -/

/-- R315, R317: ball `j` of SP`n`: BCLK, FS, DIN, DOUT. -/
def spOwn (n j : Nat) (s : State) : Ball :=
  match j with
  | 2 => {}
  | 3 => match spDout n 0 s with
    | .hiZ => {}
    | .low => { drive := .low }
    | _ => { drive := .signal }
  | _ => match spDrivesClock n s with
    | .input => {}
    | .low => { drive := .low }
    | .clocking => { drive := .signal }

/-- R482: HALO_COM`j`: its slots in turn while the halo runs, else inactive by HALO.COM_POL. -/
def comOwn (j : Nat) (s : State) : Ball :=
  if s.halo.run && j < haloSlots s && haloSlots s != 1 then { drive := .signal }
  else { drive := if fld 0x38 0x003 s = 1 then .low else .high }

/-- Table 04.8: MCLK as an output. -/
def mclkOwn (s : State) : Ball := if fld 0x01 0x001 s = 0 then {} else { drive := .signal }

/-- R376: PDM_CLK`g` while it runs. PRESUMED: low while it does not (assumption log 44). -/
def pdmOwn (g : Nat) (s : State) : Ball := { drive := if s.mic.pdmClk.getLsbD g then .signal else .low }

/-- Table 02.2: what its function makes of configurable ball `n`. -/
def ballOwn (n : Nat) (s : State) : Ball :=
  if n < 16 then gpioOwn n s
  else if n < 32 then spOwn ((n - 16) / 4) ((n - 16) % 4) s
  else if n < 34 then pdmOwn (n - 32) s
  else if n < 42 then {}
  else if n < 46 then comOwn (n - 42) s
  else mclkOwn s

/-- R35 to R37, R40, Table 02.4: the state of configurable ball `n`, 0 to 46. -/
def ball (n : Nat) (s : State) : Ball := if s.sup.vsupUp then phaseBall (ballOwn n s) n s else {}

/-! ### Balls without a fuse index (R38, Table 02.5) -/

/-- The pull of a ball while its driver is off. -/
def offPull (on : Bool) (p : Pull) : Ball := if on then { drive := .signal } else { pull := p }

/-- R322: the D+ pull-up is on: the device is attached at full speed. -/
def dpPull (s : State) : Bool := s.usb.state != .detached && !s.usb.speed

/-- R38: the state of a ball without a fuse index. With VSUP absent no ball is driven and no pull applies (R34). -/
def fixedBall (b : FixedBall) (s : State) : Ball :=
  if !s.sup.vsupUp then {} else
  match b with
  | .rstN => { pull := .up 50000 }
  | .dbgClk => { pull := .down 50000 }
  | .dbgIo => { pull := .up 50000 }
  | .pttN => { pull := .up 100000 }
  | .testEn => { pull := .down 50000 }
  | .twhScl => offPull s.twh.active .none
  | .twhSda => offPull s.twh.active .none
  | .twcScl => offPull (s.twc.phase == .transfer || s.twc.phase == .busClear) .none
  | .twcSda => offPull (s.twc.phase == .transfer) .none
  | .usbDp => if dpPull s then { pull := .up 1500 } else offPull (s.usb.state != .detached) .none
  | .usbDm => offPull (s.usb.state != .detached && s.usb.speed) .none
  | .ringIn => {}
  | .ringOut => offPull (!bypassClosed s) .none
  | .spk ch => offPull (spkSwitching ch.val s) (.down 5000)
  | .hp _ => offPull (!hpIdle s) .none
  | .lout right => offPull (loutDrives (if right then 1 else 0) s) .none
  | .micbias n => offPull (biasOn n.val s) (.down 10000)
  | .rdac n => offPull (rdacDrives n.val s) .none
  | .ledSnk _ => offPull s.halo.run .none
  | .analogue => {}

end Sys2Proof.Machine
end

