-- ==== Sys2Proof/Machine/CodeWord.lean ====
section
/-! DEFINITION. The command that a code word names (R210 to R212, R230, R240): the word's opcode and function code choose
the command, its fields the operands. nextInstr: the word that stands at an agent's program counter. The table of commands
gives no bits, so no word is put into the queue: the sender names the command (assumption log 47). -/

namespace Sys2Proof.Machine

/-! ### Fields (R212, Table 10.2) -/

/-- Field `[hi:lo]` as the number of one of `n` things. -/
def idx (n : Nat) [NeZero n] (w : Word) (hi lo : Nat) : Fin n := Fin.ofNat n (fieldOf w hi lo)

/-- A v field at `lo`. -/
def vf (w : Word) (lo : Nat) : Fin 32 := idx 32 w (lo + 4) lo

/-- A p field at `lo`. -/
def pf (w : Word) (lo : Nat) : Fin 8 := idx 8 w (lo + 2) lo

/-- A q or a field at `lo`. -/
def qf (w : Word) (lo : Nat) : Fin 4 := idx 4 w (lo + 1) lo

/-- Bit `k`. -/
def bitOf (w : Word) (k : Nat) : Bool := !isZero w k k

/-- IMM or STEP, `[15:0]`. -/
def immOf (w : Word) : BitVec 16 := w.setWidth 16

/-! ### Lane-profile and shared words -/

/-- Table 10.3: QALU. -/
def qaluInstr (who : Agent) (w : Word) : Instr :=
  let d := vf w 21
  let s := vf w 16
  let t := vf w 11
  let n := idx 32 w 4 0
  match fieldOf w 10 6 with
  | 0x00 => .nop who | 0x01 => .add who d s t | 0x02 => .sub who d s t | 0x03 => .addw who d s t
  | 0x04 => .subw who d s t | 0x05 => .neg who d s | 0x06 => .abs who d s | 0x07 => .min who d s t
  | 0x08 => .max who d s t | 0x09 => .mul who d s t | 0x0A => .muli who d s t | 0x0B => .and who d s t
  | 0x0C => .or who d s t | 0x0D => .xor who d s t | 0x0E => .not who d s | 0x10 => .shl who d s n
  | 0x11 => .shr who d s n | 0x12 => .sar who d s n | 0x13 => .shls who d s n | 0x14 => .ash who d s t
  | 0x15 => .clip who d s t | 0x16 => .qnt who d s n | 0x17 => .norm who d s | 0x18 => .satclr who
  | _ => .satget who d

/-- Table 10.4: FALU. -/
def faluInstr (who : Agent) (w : Word) : Instr :=
  let d := vf w 21
  let s := vf w 16
  let t := vf w 11
  let n := idx 32 w 4 0
  match fieldOf w 10 6 with
  | 0x01 => .fadd who d s t | 0x02 => .fsub who d s t | 0x03 => .fmul who d s t | 0x04 => .fmac who d s t
  | 0x05 => .fdiv who d s t | 0x06 => .fsqrt who d s | 0x07 => .fmin who d s t | 0x08 => .fmax who d s t
  | 0x09 => .fabs who d s | 0x0A => .fneg who d s | 0x10 => .ftoq who d s n | 0x11 => .qtof who d s n
  | 0x12 => .ftoi who d s | _ => .itof who d s

/-- Table 10.8: PRED. -/
def predInstr (who : Agent) (w : Word) : Instr :=
  let d := qf w 24
  let s := qf w 22
  let t := qf w 20
  match fieldOf w 19 17 with
  | 0 => .qset who d (bitOf w 0) | 1 => .qand who d s t | 2 => .qor who d s t | 3 => .qxor who d s t
  | 4 => .qandn who d s t | 5 => .qnot who d s | 6 => .qtov who (vf w 12) s | _ => .vtoq who d (vf w 12)

/-- Table 10.5: MOVE. -/
def moveInstr (who : Agent) (w : Word) : Instr :=
  let d := vf w 21
  match fieldOf w 10 6 with
  | 0 => .mov who d (vf w 16) | 1 => .sel who d (vf w 16) (vf w 11) (qf w 0) | 2 => .pget who d (pf w 0)
  | 3 => .pgets who d (pf w 0) | 4 => .lcget who d (idx 2 w 0 0) | _ => .pack who d (vf w 16) (vf w 11)

/-- Table 10.6: ACC. -/
def accInstr (who : Agent) (w : Word) : Instr :=
  let a := qf w 0
  match fieldOf w 10 6 with
  | 0 => .rnd who (vf w 21) a | 1 => .rndsh who (vf w 21) a (idx 16 w 5 2) | 2 => .aclr who a
  | 3 => .ald who a (vf w 16) | 4 => .aadd who a (vf w 16) | _ => .amov who a (qf w 2)

/-- Table 10.10: PTR. -/
def ptrInstr (who : Agent) (w : Word) : Instr :=
  let k := pf w 23
  match fieldOf w 17 16 with
  | 0 => .pseta who k (vf w 18) (immOf w) | 1 => .psets who k (vf w 18) (immOf w) | 2 => .psetl who k (immOf w)
  | _ => .pstep who k (immOf w)

/-- Tables 10.1 and 11.2: the command that a valid word of opcodes 0x01 to 0x2C names; `es` and `hits`: what its accesses
meet. -/
def laneInstr (who : Agent) (w : Word) (es : List Ecc) (hits : List Bool) : Instr :=
  let hoff : BitVec 10 := w.setWidth 10
  let target : BitVec 17 := w.setWidth 17
  match majorOp w with
  | 0x01 => qaluInstr who w
  | 0x02 => faluInstr who w
  | 0x03 => .cmp who (qf w 24) (vf w 19) (vf w 14) (BitVec.ofNat 4 (fieldOf w 13 10)) (bitOf w 9) (bitOf w 8)
      (BitVec.ofNat 2 (fieldOf w 7 6))
  | 0x04 => predInstr who w
  | 0x05 => moveInstr who w
  | 0x06 => .addi who (vf w 21) (vf w 16) (immOf w)
  | 0x07 => .movi who (vf w 21) (immOf w)
  | 0x08 => .mac who (qf w 24) (vf w 19) (vf w 14) (vf w 9) (vf w 4) (bitOf w 0) (bitOf w 1) (bitOf w 2) (bitOf w 3)
  | 0x09 => accInstr who w
  | 0x0A => .macp who (qf w 24) (pf w 21) (pf w 18) (bitOf w 17) (bitOf w 16) es
  | 0x0B => .movhi who (vf w 21) (immOf w)
  | 0x0C => .bq who (vf w 21) (vf w 16) (pf w 13) (pf w 10) es hits
  | 0x0D => .bfly who (vf w 21) (vf w 16) (vf w 11) (bitOf w 0)
  | 0x10 => .ld who (vf w 21) (pf w 18) (BitVec.ofNat 2 (fieldOf w 17 16)) (immOf w) es
  | 0x11 => .st who (vf w 21) (pf w 18) (BitVec.ofNat 2 (fieldOf w 17 16)) (immOf w) es hits
  | 0x14 => ptrInstr who w
  | 0x18 => .loop who (if bitOf w 24 then some (vf w 19) else none) (if bitOf w 24 then 0 else BitVec.ofNat 10 (fieldOf w 23 14))
      (w.setWidth 14)
  | 0x19 => .lbrk who
  | 0x20 => .srd who (pf w 23) (vf w 18) hoff
  | 0x21 => .swr who (pf w 23) (vf w 18) hoff es
  | 0x22 => .sget who (vf w 21) (vf w 16) (vf w 11) hoff
  | 0x23 => .sput who (vf w 21) (vf w 16) (vf w 11) hoff
  | 0x24 => .bsend who (vf w 18) hoff
  | 0x25 => .evt who
  | 0x26 => .waitf who
  | 0x27 => .yield who
  | 0x28 => .br who target
  | 0x29 => .brt who (qf w 24) target
  | 0x2A => .brf who (qf w 24) target
  | 0x2B => .call who target
  | _ => .jmpr who (vf w 16)

/-! ### Steward-only words (Table 11.8) -/

/-- Table 11.8: LCYREQ. -/
def lcyInstr (src : Source) (w lit lit2 : Word) : Instr :=
  match fieldOf w 23 20 with
  | 1 => .lcyreqSeal src | 2 => .lcyreqWriteToken src (lit2 ++ lit) | 3 => .lcyreqFuseWrite src (w.setWidth 12) lit
  | _ => .lcyreqVoid src lit

/-- Tables 11.8 and 11.12: CALRUN. -/
def calInstr (src : Source) (w : Word) : Instr :=
  let f := bitOf w 19
  let u : BitVec 16 := w.setWidth 16
  match fieldOf w 23 20 with
  | 1 => .calrunSarCal src f u | 2 => .calrunPipeAvg src f u | 3 => .calrunAadcOffset src f u
  | 4 => .calrunAadcSelftest src f u | _ => .calrunMicArray src f u

/-- Table 11.8: the command that a valid steward-only word names, with the literal words that follow it. -/
def stwInstr (src : Source) (w lit lit2 : Word) : Instr :=
  let ctx := idx 1024 w 9 0
  let kind := BitVec.ofNat 4 (fieldOf w 23 20)
  let ep := BitVec.ofNat 10 (fieldOf w 19 10)
  let blk (lo : Nat) : BitVec 6 := BitVec.ofNat 6 (fieldOf w (lo + 5) lo)
  let fid := BitVec.ofNat 12 (fieldOf w 19 8)
  match majorOp w with
  | 0x38 => .load src (w.setWidth 20) lit
  | 0x39 => match fieldOf w 25 22 with
    | 1 => .cstart src ctx lit | 2 => .cstop src ctx | _ => .cstopRelease src ctx
  | 0x3A => match fieldOf w 25 24 with
    | 0 => .routeWriter src kind ep ctx | 1 => .routeReader src kind ep ctx | 2 => .routeUnread src kind ep ctx
    | _ => .routeFree src ctx
  | 0x3B => .bankpwr src (BitVec.ofNat 5 (fieldOf w 20 16)) (BitVec.ofNat 4 (fieldOf w 15 12))
      (match fieldOf w 1 0 with | 0 => .on | 1 => .retain | _ => .off)
  | 0x3C => .cfg src (blk 20) fid (w.setWidth 8)
  | 0x3D => if bitOf w 7 then .cfgl src (blk 20) fid 0 (some (vf w 0)) else .cfgl src (blk 20) fid lit none
  | 0x3E =>
    if fieldOf w 25 22 = 1 then .claim src (blk 16) (w.setWidth 16) else .release src (blk 16) (w.setWidth 16)
  | _ => match fieldOf w 25 24 with
    | 0 => if blk 18 = 0x03 then .bresetRst src (w.setWidth 16) else .breset src (blk 18) (w.setWidth 16)
    | 1 => lcyInstr src w lit lit2
    | _ => calInstr src w

/-! ### The word at a program counter -/

/-- R210, R237: the command that a word names when `who` comes to it: none where a context could not (R210); on the steward a
word of no valid encoding halts it. -/
def codeInstr (who : Agent) (w lit lit2 : Word) (es : List Ecc) (hits : List Bool) : Option Instr :=
  if laneWord w then some (laneInstr who w es hits)
  else match who with
    | .ctx _ => none
    | .steward => some (if stwWord w then stwInstr .steward w lit lit2 else .illegalStewardWord)

/-- The address of the word at an agent's program counter: in the bound code region, or in the steward bank. -/
def codeAddr (who : Agent) (s : State) : Nat :=
  match who with | .ctx n => (ctxAt n s).code + 4 * (ctxAt n s).regs.pc | .steward => 0x800000 + 4 * s.stw.regs.pc

/-- The command that `who` comes to next, with what its accesses meet. -/
def nextInstr (who : Agent) (es : List Ecc) (hits : List Bool) (s : State) : Option Instr :=
  let a := codeAddr who s
  codeInstr who (wordAt a s) (wordAt (a + 4) s) (wordAt (a + 8) s) es hits

end Sys2Proof.Machine
end

