-- ==== Sys2Proof/Tests/Slice0.lean ====
section
/-! SUPPORT. Tests: operand rules that refuse, single commands against the manual's own figures, and for every statement
with hypotheses states and operands that meet them. -/

namespace Sys2Proof.Tests

open Sys2Proof.Machine

/-! ### The states of the tests -/

/-- The image runs, in RUN and DEVELOP. -/
def up : State := { State.reset with
  rst := { phase := .running, stage := .running, handedOver := true, bootDone := true }
  sup := { vsupUp := true } }

/-- A context of 16 words of code at 0 and 4 KiB of data at 0x1000, with a set of registers. -/
def ctxOf (r : RegSet) : Ctx :=
  { st := .running, code := 0, words := 16, dbase := 0x1000, dlen := 0x1000, regs := r, ran := true }

/-- Context 0 runs at the head of its lane, its turn begun. -/
def run0 (r : RegSet) : State := { up with
  lane := { ctx := [(0, ctxOf r)], runList := (Vector.replicate 16 []).set 0 [0], turn := 1 }
  cfg := [(0x8400, 100000)] }

/-- Registers whose eight pointers stand 64 bytes apart from `a` on. -/
def ptrs (a : Nat) : RegSet := { p := Vector.ofFn fun k : Fin 8 => { addr := BitVec.ofNat 32 (a + 64 * k.val) } }

/-- The steward runs with a set of registers. -/
def stw0 (r : RegSet) : State := { up with stw := { regs := r } }

/-- Context 0 runs, a stream 5 names it as reader and writer and is a member of bus 0, in a frame of 16 samples. -/
def strm0 (r : RegSet) : State := { run0 r with
  strm := { s := [(5, { writer := some (1, 0), readers := [(1, 0)] })] }
  cfg := [(0x1010, 0), (0x8400, 100000), (0xA005, 1)] }

/-! ### Operand rules: an ill-formed command for each -/

theorem test_wf_qnt : (Instr.qnt .steward 1 2 0).wf = false ∧ (Instr.qnt .steward 1 2 1).wf = true := by decide
theorem test_wf_cmp_condition : (Instr.cmp .steward 0 1 2 8 false false 0).wf = false
    ∧ (Instr.cmp .steward 0 1 2 6 true false 0).wf = false ∧ (Instr.cmp .steward 0 1 2 8 true false 0).wf = true := by decide
theorem test_wf_cmp_comb : (Instr.cmp .steward 0 1 2 0 false false 3).wf = false := by decide
theorem test_wf_cmp_zero : (Instr.cmp .steward 0 1 2 0 false true 0).wf = false
    ∧ (Instr.cmp .steward 0 1 0 0 false true 0).wf = true := by decide
theorem test_wf_mac_single : (Instr.mac .steward 0 1 2 3 0 false false false true).wf = false
    ∧ (Instr.mac .steward 0 1 2 0 3 false false false true).wf = false
    ∧ (Instr.mac .steward 0 1 2 0 0 false false true true).wf = false
    ∧ (Instr.mac .steward 0 1 2 0 0 true true false true).wf = true := by decide
theorem test_wf_macp : (Instr.macp .steward 0 3 3 false false []).wf = false := by decide
theorem test_wf_bq : (Instr.bq .steward 1 2 4 4 [] []).wf = false := by decide
theorem test_wf_bfly : (Instr.bfly .steward 1 2 4 false).wf = false ∧ (Instr.bfly .steward 2 3 4 false).wf = false
    ∧ (Instr.bfly .steward 2 4 5 false).wf = false ∧ (Instr.bfly .steward 2 2 4 false).wf = false
    ∧ (Instr.bfly .steward 2 4 2 false).wf = true := by decide
theorem test_wf_pair : (Instr.ld .steward 3 0 1 0 []).wf = false ∧ (Instr.st .steward 3 0 1 0 [] []).wf = false
    ∧ (Instr.ld .steward 3 0 0 0 []).wf = true := by decide
theorem test_wf_psetl : (Instr.psetl .steward 0 6).wf = false ∧ (Instr.psetl .steward 0 65532).wf = true := by decide
theorem test_wf_loop : (Instr.loop .steward none 0 5).wf = false ∧ (Instr.loop .steward (some 0) 0 5).wf = true := by decide
theorem test_wf_cfgl : (Instr.cfgl .host 1 2 3 (some 4)).wf = false
    ∧ (Instr.cfgl .steward 1 2 3 (some 4)).wf = true := by decide

/-! ### Slaso: registers -/

theorem witness_issues_ctx : Issues (.ctx 0) 1 (run0 {}) ∧ Issues (.ctx 0) 8 (run0 {}) := by
  refine ⟨⟨?_, ?_, ?_, ?_⟩, ⟨?_, ?_, ?_, ?_⟩⟩ <;> decide

theorem witness_issues_steward : Issues .steward 1 up ∧ Issues .steward 8 up := by
  refine ⟨⟨?_, ?_⟩, ⟨?_, ?_⟩⟩ <;> decide

theorem witness_QaluFunctions : Issues (.ctx 0) 1 (run0 {}) ∧ (1 : Fin 32) ≠ 0 ∧ (31 : Fin 32) ≠ 0 :=
  ⟨witness_issues_ctx.1, by decide, by decide⟩
theorem witness_LeadingSignRun : Issues (.ctx 0) 1 (run0 {}) := witness_issues_ctx.1
theorem witness_MovesAndImmediates : Issues (.ctx 0) 1 (run0 {}) := witness_issues_ctx.1
theorem witness_PredicateLogic : Issues (.ctx 0) 1 (run0 {}) := witness_issues_ctx.1
theorem witness_MultiplyAccumulate : Issues (.ctx 0) 1 (run0 {}) := witness_issues_ctx.1
theorem witness_AccumulatorMoves : Issues (.ctx 0) 1 (run0 {}) := witness_issues_ctx.1
theorem witness_ComplexButterfly : Issues .steward 2 up
    ∧ (0 : Fin 32).val % 2 = 0 ∧ (30 : Fin 32).val % 2 = 0 ∧ (0 : Fin 32) ≠ 30
    ∧ (1 : Fin 32).val = (0 : Fin 32).val + 1 ∧ (31 : Fin 32).val = (30 : Fin 32).val + 1 :=
  ⟨⟨by decide, by decide⟩, by decide⟩
theorem witness_CompareIntoPredicate : Issues (.ctx 0) 1 (run0 {}) ∧ (true = true → (0 : Fin 32) = 0) :=
  ⟨witness_issues_ctx.1, fun _ => rfl⟩
theorem witness_PointerSetUp : Issues (.ctx 0) 1 (run0 { p := (Vector.replicate 8 {}).set 1 { len := 4 } })
    ∧ (0 : BitVec 16).toNat % 4 = 0 ∧ (65532 : BitVec 16).toNat % 4 = 0
    ∧ (agentRegs (.ctx 0) (run0 { p := (Vector.replicate 8 {}).set 1 { len := 4 } })).p[(0 : Fin 8)].len = 0
    ∧ (agentRegs (.ctx 0) (run0 { p := (Vector.replicate 8 {}).set 1 { len := 4 } })).p[(1 : Fin 8)].len ≠ 0 := by
  refine ⟨⟨?_, ?_, ?_, ?_⟩, ?_, ?_, ?_, ?_⟩ <;> decide
theorem witness_PointerPostModify : (({} : Ptr)).len = 0 ∧ ({ len := 4 } : Ptr).len ≠ 0 := by decide
theorem witness_BinaryInstructionsComplete : Issues (.ctx 0) 1 (run0 {}) ∧ Issues (.ctx 0) 8 (run0 {}) := witness_issues_ctx
theorem witness_BinaryResultsAreCanonical :
    (0xFFC00001 : Word).toNat / 2 ^ 23 % 256 = 255 ∧ (0xFFC00001 : Word).toNat % 2 ^ 23 ≠ 0
    ∧ (0x007FFFFF : Word).toNat / 2 ^ 23 % 256 = 0 := by decide
theorem witness_BinarySpecialCases :
    (0x007FFFFF : Word).toNat / 2 ^ 23 % 256 = 0
    ∧ (0 < (0x00800000 : Word).toNat / 2 ^ 23 % 256 ∧ (0x7F7FFFFF : Word).toNat / 2 ^ 23 % 256 < 255)
    ∧ (0x80000000 : Word).toNat % 2 ^ 31 = 0
    ∧ (0 < (0x80800000 : Word).toNat / 2 ^ 23 % 256 ∧ 2 ^ 31 ≤ (0x80800000 : Word).toNat)
    ∧ ((0x7F800001 : Word).toNat / 2 ^ 23 % 256 = 255 ∧ (0x7F800001 : Word).toNat % 2 ^ 23 ≠ 0) := by decide
theorem witness_ConversionsToIntegers :
    (2 ^ 24 - 1 < 2 ^ 24) ∧ ((2 : Int) ^ 31 ≤ (2 ^ 23 : Nat) * 2 ^ 8) ∧ (-(2 ^ 23 + 1 : Int) * 2 ^ 8 < -(2 ^ 31))
    ∧ (-(2 ^ 31 : Int) ≤ -(2 ^ 23) * 2 ^ 8) ∧ ((2 ^ 24 - 1 : Int) * 2 ^ 7 < 2 ^ 31) := by decide

/-- R214: the MUL of the two most negative values clamps and sets CSW.SAT. -/
theorem test_mul_clamps : (match exec (.mul .steward 2 0 0) (stw0 { v := (Vector.replicate 32 0).set 0 0x80000000 }) with
    | .next t => (t.stw.regs.vr 2, t.stw.regs.sat, t.stw.regs.pc) | _ => (0, false, 0)) = (0x7FFFFFFF, true, 1) := by decide

/-! ### Slaso: loops, branches, frame control -/

theorem witness_LoopEntry :
    let s := fun d => run0 { depth := d, pc := 3, v := (Vector.replicate 32 0).set 1 65535 }
    (∀ d : Fin 3, Issues (.ctx 0) 1 (s d) ∧ (agentRegs (.ctx 0) (s d)).pc < (4 : BitVec 14).toNat
      ∧ (agentRegs (.ctx 0) (s d)).depth = d)
    ∧ BitVec.ofNat 16 ((agentRegs (.ctx 0) (s 0)).vr 0).toNat = 0
    ∧ BitVec.ofNat 16 ((agentRegs (.ctx 0) (s 0)).vr 1).toNat ≠ 0 ∧ BitVec.ofNat 16 (1023 : BitVec 10).toNat ≠ 0
    ∧ (Issues .steward 1 (stw0 { pc := 4 }) ∧ (4 : BitVec 14).toNat ≤ (agentRegs .steward (stw0 { pc := 4 })).pc) := by
  refine ⟨fun d => ⟨⟨?_, ?_, ?_, ?_⟩, ?_, ?_⟩, ?_, ?_, ?_, ⟨?_, ?_⟩, ?_⟩
  iterate 6 revert d; decide
  all_goals decide
theorem witness_LoopBackAndBreak :
    let r := fun d (n : BitVec 16) => ({ depth := d, pc := 7, lc0 := ⟨n, 5, 7⟩, lc1 := ⟨n, 6, 7⟩ } : RegSet)
    (∀ d : Fin 3, (r d 2).depth = d ∧ Issues (.ctx 0) 1 (run0 (r d 2)))
    ∧ (r 1 2).lc0.last = (r 1 2).pc ∧ (r 2 2).lc1.last = (r 2 2).pc ∧ 1 < (r 1 2).lc0.n.toNat ∧ (r 1 1).lc0.n.toNat ≤ 1
    ∧ ({ depth := 1, lc0 := ⟨2, 5, 7⟩ } : RegSet).lc0.last ≠ 0 := by
  refine ⟨fun d => ⟨?_, ⟨?_, ?_, ?_, ?_⟩⟩, ?_, ?_, ?_, ?_, ?_⟩
  iterate 5 revert d; decide
  all_goals decide
theorem witness_BranchesAndCalls :
    let s := fun q => run0 { q := q }
    Issues (.ctx 0) 2 (s 0) ∧ Issues (.ctx 0) 2 (s 1) ∧ Issues (.ctx 0) 1 (s 0) ∧ Issues (.ctx 0) 1 (s 1)
    ∧ (agentRegs (.ctx 0) (s 0)).q.getLsbD (0 : Fin 4) = false
    ∧ (agentRegs (.ctx 0) (s 1)).q.getLsbD (0 : Fin 4) = true := by
  refine ⟨⟨?_, ?_, ?_, ?_⟩, ⟨?_, ?_, ?_, ?_⟩, ⟨?_, ?_, ?_, ?_⟩, ⟨?_, ?_, ?_, ?_⟩, ?_, ?_⟩ <;> decide
theorem witness_EventAndFrameControl : Issues .steward 1 up ∧ Issues (.ctx 0) 1 (run0 {}) :=
  ⟨witness_issues_steward.1, witness_issues_ctx.1⟩

/-! ### Slaso: memory and streams -/

theorem data_on {x : Nat} (hl : 0x1000 ≤ x) (hu : x < 0x1040) : addrOn x up = true := by
  have h : ∀ k : Fin 64, addrOn (0x1000 + k.val) up = true := by decide
  have := h ⟨x - 0x1000, by omega⟩
  rwa [show 0x1000 + (x - 0x1000) = x by omega] at this

theorem loads_from_data {a len align : Nat} {r : RegSet} (h1 : a % align = 0) (h2 : 0x1000 ≤ a) (h3 : a + len ≤ 0x1040) :
    LoadsFrom (.ctx 0) a len align (run0 r) := by
  have h4 : a + len ≤ 0x1000 + 0x1000 := by omega
  exact ⟨h1, fun x hx hy => data_on (x := x) (by omega) (by omega), .inl ⟨h2, h4⟩⟩

theorem loads_from_streams {r : RegSet} : LoadsFrom (.ctx 0) 0x1000 64 4 (strm0 r) :=
  ⟨by decide, fun x hx hy => data_on (x := x) (by omega) (by omega), .inl ⟨Nat.le_refl _, show 0x1040 ≤ 0x2000 by decide⟩⟩

theorem stores_to_data {a len align : Nat} {r : RegSet} (h1 : a % align = 0) (h2 : 0x1000 ≤ a) (h3 : a + len ≤ 0x1040) :
    StoresTo (.ctx 0) a len align (run0 r) := by
  have h4 : a + len ≤ 0x1000 + 0x1000 := by omega
  exact ⟨h1, (loads_from_data h1 h2 h3).2.1, fun r hr => (nomatch hr), h2, h4⟩

theorem stores_to_streams {r : RegSet} : StoresTo (.ctx 0) 0x1000 64 4 (strm0 r) :=
  ⟨by decide, loads_from_streams.2.1, fun r hr => (nomatch hr), Nat.le_refl _, show 0x1040 ≤ 0x2000 by decide⟩

theorem witness_LoadsOfEverySize :
    Issues (.ctx 0) 1 (run0 {}) ∧ (∀ e ∈ [Ecc.clean, Ecc.clean], e = .clean)
    ∧ LoadsFrom (.ctx 0) 0x1000 4 4 (run0 {}) ∧ LoadsFrom (.ctx 0) 0x1038 8 8 (run0 {}) ∧ LoadsFrom (.ctx 0) 0x1002 2 2 (run0 {})
    ∧ (30 : Fin 32).val % 2 = 0 ∧ (31 : Fin 32).val = (30 : Fin 32).val + 1 :=
  ⟨witness_issues_ctx.1, by decide, loads_from_data (by decide) (by decide) (by decide),
    loads_from_data (by decide) (by decide) (by decide), loads_from_data (by decide) (by decide) (by decide), by decide⟩
theorem witness_StoresOfEverySize :
    Issues (.ctx 0) 1 (run0 {}) ∧ (run0 {}).memWf = true ∧ (∀ e ∈ [Ecc.clean, Ecc.clean], e = .clean)
    ∧ StoresTo (.ctx 0) 0x1000 4 4 (run0 {}) ∧ StoresTo (.ctx 0) 0x1038 8 8 (run0 {}) ∧ StoresTo (.ctx 0) 0x1002 2 2 (run0 {})
    ∧ (30 : Fin 32).val % 2 = 0 ∧ (31 : Fin 32).val = (30 : Fin 32).val + 1 :=
  ⟨witness_issues_ctx.1, by decide, by decide, stores_to_data (by decide) (by decide) (by decide),
    stores_to_data (by decide) (by decide) (by decide), stores_to_data (by decide) (by decide) (by decide), by decide⟩
theorem witness_MultiplyAccumulateFromMemory :
    Issues (.ctx 0) 1 (run0 {}) ∧ (0 : Fin 8) ≠ 1 ∧ (∀ e ∈ [Ecc.clean], e = .clean)
    ∧ LoadsFrom (.ctx 0) 0x1000 8 8 (run0 {}) ∧ LoadsFrom (.ctx 0) 0x1038 8 8 (run0 {}) :=
  ⟨witness_issues_ctx.1, by decide, by decide, loads_from_data (by decide) (by decide) (by decide),
    loads_from_data (by decide) (by decide) (by decide)⟩
theorem witness_BiquadStep :
    Issues (.ctx 0) 3 (run0 {}) ∧ (run0 {}).memWf = true ∧ (0 : Fin 8) ≠ 1 ∧ (∀ e ∈ [Ecc.clean], e = .clean)
    ∧ LoadsFrom (.ctx 0) 0x1000 20 4 (run0 {}) ∧ StoresTo (.ctx 0) 0x1030 16 4 (run0 {}) :=
  ⟨⟨by decide, by decide, by decide, by decide⟩, by decide, by decide, by decide,
    loads_from_data (by decide) (by decide) (by decide), stores_to_data (by decide) (by decide) (by decide)⟩
theorem witness_SamplesAndSends :
    let s := fun i : Word => strm0 { v := (Vector.replicate 32 0).set 1 i }
    let x := strm (((0 : Word).toNat + (5 : BitVec 10).toNat) % 1024) (s 0)
    Issues (.ctx 0) 1 (s 15) ∧ Issues (.ctx 0) 1 (s 16) ∧ (1, 0) ∈ x.readers ∧ x.writer = some (1, 0)
    ∧ ((agentRegs (.ctx 0) (s 15)).vr 1).toNat % 128 < frameLen (s 15)
    ∧ frameLen (s 16) ≤ ((agentRegs (.ctx 0) (s 16)).vr 1).toNat % 128 ∧ fld 0x0A 5 (s 0) ≠ 0 := by
  refine ⟨⟨?_, ?_, ?_, ?_⟩, ⟨?_, ?_, ?_, ?_⟩, ?_, ?_, ?_, ?_, ?_⟩ <;> decide
theorem witness_FrameTransfers :
    let s := strm0 { p := (Vector.replicate 8 {}).set 0 { addr := 0x1000 } }
    let x := strm 5 s
    Issues (.ctx 0) (2 + frameLen s / 4) s ∧ s.memWf = true ∧ (∀ e ∈ [Ecc.clean], e = .clean)
    ∧ (1, 0) ∈ x.readers ∧ x.writer = some (1, 0) ∧ StoresTo (.ctx 0) 0x1000 (4 * frameLen s) 4 s
    ∧ LoadsFrom (.ctx 0) 0x1000 (4 * frameLen s) 4 s :=
  ⟨⟨by decide, by decide, by decide, by decide⟩, by decide, by decide, by decide, by decide, stores_to_streams,
    loads_from_streams⟩

/-- Chapter 10's biquad: with b0 = 1.0 and the other coefficients 0 the section passes its input on. -/
theorem test_bq_identity : (match exec (.bq .steward 2 1 0 1 [] []) { up with
      stw := { regs := { v := (Vector.replicate 32 0).set 1 0x12345678
                         p := ((Vector.replicate 8 {}).set 0 { addr := 0x800000 }).set 1 { addr := 0x800040 } } }
      mem := { cells := [(0x800003, 0x40)] } } with
    | .next t => (t.stw.regs.vr 2, wordAt 0x800040 t, wordAt 0x800048 t, t.stw.regs.p[1].addr)
    | _ => (0, 0, 0, 0)) = (0x12345678, 0x12345678, 0x12345678, 0x800050) := by decide

/-! ### Slaso: faults and overruns -/

/-- Context 0 has used its whole budget. -/
def spent : State := { run0 {} with cfg := [(0x8400, 0)] }

theorem witness_OverrunPreempts :
    slasoOf (.nop (.ctx 0)) spent = some (.ctx 0, 1) ∧ (Instr.nop (.ctx 0)).wf = true
    ∧ ctxReady 0 spent = true ∧ (ctxAt 0 spent).regs.pc < (ctxAt 0 spent).words
    ∧ addrOn ((ctxAt 0 spent).code + 4 * (ctxAt 0 spent).regs.pc) spent = true
    ∧ spent.lane.turn.getLsbD 0 = true ∧ fits 0 1 spent = false ∧ fits 0 12 { spent with lane.turn := 0 } = false := by decide
theorem witness_FetchOutsideTheRegion :
    let s := run0 { pc := 16 }
    slasoOf (.nop (.ctx 0)) s = some (.ctx 0, 1) ∧ (Instr.nop (.ctx 0)).wf = true ∧ ctxReady 0 s = true
    ∧ s.lane.turn.getLsbD 0 = true ∧ (ctxAt 0 s).words ≤ (ctxAt 0 s).regs.pc := by decide
theorem witness_AccessAndStreamFaults :
    let s := fun a => run0 { p := (Vector.replicate 8 {}).set 0 { addr := a } }
    let off := fun a => { s a with mem := { power := [(0, .off)] } }
    let locked := fun a => { s a with lane := { (s a).lane with regions := [{ base := 0x1000, words := 1 }] } }
    Issues (.ctx 0) 1 (s 0x1001) ∧ (0x1001 : Nat) % 4 ≠ 0
    ∧ Issues (.ctx 0) 1 (s 0x2000) ∧ ¬(0x1000 ≤ 0x2000 ∧ 0x2000 + 4 ≤ 0x1000 + 0x1000) ∧ ¬(0 ≤ 0x2000 ∧ 0x2000 + 4 ≤ 0 + 4 * 16)
    ∧ Issues (.ctx 0) 1 (locked 0x1000) ∧ (∃ g ∈ (locked 0x1000).lane.regions, g.base < 0x1000 + 4 ∧ 0x1000 < g.base + 4 * g.words)
    ∧ (1, 0) ∉ (strm 0 (s 0)).readers ∧ (strm 0 (s 0)).writer ≠ some (1, 0)
    ∧ (strm 5 { strm0 {} with cfg := [] }).writer = some (1, 0) ∧ fld 0x0A 5 { strm0 {} with cfg := [] } = 0
    ∧ addrOn 0x1000 (off 0x1000) = false := by
  refine ⟨⟨?_, ?_, ?_, ?_⟩, ?_, ⟨?_, ?_, ?_, ?_⟩, ?_, ?_, ⟨?_, ?_, ?_, ?_⟩, ?_, ?_, ?_, ?_, ?_, ?_⟩ <;> decide
theorem witness_StewardHalts :
    stwReady up = true ∧ up.stw.regs.pc < 0x20000 ∧ slasoOf (.waitf .steward) up = some (.steward, 1)
    ∧ (Instr.qnt .steward 0 0 0).wf = false ∧ slasoOf (.qnt .steward 0 0 0) up = some (.steward, 1)
    ∧ stwReady (stw0 { pc := 0x20000 }) = true ∧ 0x20000 ≤ (stw0 { pc := 0x20000 }).stw.regs.pc := by decide

/-! ### Lanes and memory -/

theorem witness_LaneFaultIsolation :
    (∀ p : Fin 16, up.lane.isolated.getLsbD p = false ∧ laneServed p up = true) ∧ live up = true
    ∧ (up.lane.lx ≠ .inUse ∨ up.lane.lxLane ≠ 15) ∧ up.lane.fails = [] := by decide
theorem witness_SelfCheckOfLanes :
    64 ≤ ({ up with lane.scCount := Vector.replicate 17 64 }).lane.scCount[(16 : Fin 17)]
    ∧ live up = true ∧ up.lane.lx = .spare := by decide

/-- A state whose RAM scrubber runs, quarter 1 of unit 0 OFF and lane 1 lost. -/
def scrub : State := { up with
  cfg := [(0x9002, 1)], mem := { power := [(1, .off)] }, lane := { lost := 2 } }

theorem witness_RamScrubbing :
    live scrub = true ∧ fld 0x09 0x002 scrub = 1
    ∧ (memUnit 0x10000 = some 0 ∧ addrOn 0x10000 scrub = false)
    ∧ (memUnit 0 = some 0 ∧ addrOn 0 scrub = true ∧ scrub.lane.lost.getLsbD 0 = false)
    ∧ (memUnit 0x40000 = some 1 ∧ addrOn 0x40000 scrub = true ∧ scrub.lane.lost.getLsbD 1 = true)
    ∧ (memUnit 0x1800000 = some 19 ∧ addrOn 0x1800000 scrub = true) ∧ scrub.memWf = true := by decide

/-- A state with two words of one row and one of another in the Glacier queue. -/
def queued : State := { up with mem := { glQueue := [(0x2000020, 1), (0x200003C, 2), (0x2000040, 3)] } }

theorem witness_GlacierRowProgramming :
    queued.mem.glQueue = (0x2000020, 1) :: [(0x200003C, 2), (0x2000040, 3)] ∧ queued.memWf = true
    ∧ (∀ e ∈ queued.mem.glQueue, e.1 % 4 = 0) ∧ (queued.mem.glQueue.map (·.1)).Nodup := by decide
/-- R279: a row is programmed and the word of the other row stays queued. -/
theorem test_glacier_row : (match exec .glacierRowProgram queued with
    | .next t => (wordAt 0x2000020 t, wordAt 0x200003C t, wordAt 0x2000040 t, t.mem.glQueue)
    | _ => (0, 0, 0, [])) = (1, 2, 0, [(0x2000040, 3)]) := by decide
theorem witness_GlacierScrubbing :
    let s := fun (p : Nat) (q : List (Nat × Word)) => { up with
      cfg := [(0x9010, 1)]
      mem := { scrubPos := p, glQueue := q, glBad := [] } }
    live (s 0 []) = true ∧ (s 0 []).sup.modeCur = .run ∧ fld 0x09 0x010 (s 0 []) ≠ 0
    ∧ live State.reset = false ∧ fld 0x09 0x010 { up with cfg := [(0x9010, 0)] } = 0
    ∧ (s 0x3FFFE []).mem.scrubPos + 1 < 0x40000 ∧ (s 0x3FFFF []).mem.scrubPos = 0x3FFFF
    ∧ (s 0 []).mem.glQueue.all (fun q => decide (q.1 ≠ 0x2000000)) = true
    ∧ (s 0 [(0x2000000, 5)]).mem.glQueue.all (fun q => decide (q.1 ≠ 0x2000000)) = false
    ∧ smGet false 0x2000000 (s 0 []).mem.glBad = false
    ∧ (s 0 []).mem.glQueue.length < 16 ∧ 16 ≤ (s 0 (List.replicate 16 (4, 0))).mem.glQueue.length
    ∧ (s 0 (List.replicate 16 (4, 0))).mem.glQueue.all (fun q => decide (q.1 ≠ 0x2000000)) = true
    ∧ (s 0x3FFFF [(0x20FFFFC, 5)]).mem.glQueue.all (fun q => decide (q.1 ≠ 0x2000000 + 4 * 0x3FFFF)) = false := by decide

/-! ### Resets, bring-up, boot -/

theorem witness_AssertedReset :
    up.mem.glQueue = [] ∧ queued.mem.glQueue = (0x2000020, 1) :: [(0x200003C, 2), (0x2000040, 3)] ∧ queued.memWf = true
    ∧ (∀ e ∈ queued.mem.glQueue, e.1 % 4 = 0) ∧ (queued.mem.glQueue.map (·.1)).Nodup := by decide
theorem witness_ResetSources :
    up.sup.vsupUp = true ∧ 4000 ≤ 4000 ∧ 999 < 1000 ∧ live up = true ∧ up.sup.modeCur = .run
    ∧ ({ up with sup.modeCur := .standby }).sup.modeCur = .standby ∧ live { up with sup.modeCur := .standby } = true
    ∧ up.rst.thermRun = 0 ∧ 0 < ({ up with rst.thermRun := 1 }).rst.thermRun
    ∧ fld 0x03 0x001 { up with cfg := [(0x3001, 1)] } ≠ 0 ∧ running up = true ∧ up.dbg.halted = false
    ∧ ({ up with rst.phase := .regulators }).rst.phase = .regulators
    ∧ ({ up with sup.vanaOk := false }).sup.vanaOk = false ∧ ({ up with sup.vcoreOk := false }).sup.vcoreOk = false
    ∧ up.clk.pllLock = false := by decide
theorem witness_CausePriority : (0 : Fin 9) ≤ 8 ∧ (8 : Fin 9) ≤ 8 := by decide
/-- R114: a watchdog reset in the cycle of a thermal one records THERMAL, and THERMAL in that of a BOR records BOR. -/
theorem test_cause_priority : causeOf .wdog (some .thermal) = .thermal ∧ causeOf .thermal (some .bor) = .bor := by decide
theorem witness_BringUpBegins :
    let off := fun (k : Bool) => { State.reset with sup := { keepOk := k } }
    let held := fun (low th : Bool) => { State.reset with rst := { phase := .held, rstnLow := low, thermHold := th } }
    (off true).sup.vsupUp = false ∧ (off true).sup.keepOk = true ∧ (off false).sup.keepOk = false ∧ up.sup.vsupUp = true
    ∧ (∀ low th : Bool, (held low th).rst.phase = .held ∧ (held low th).rst.rstnLow = low
        ∧ (held low th).rst.thermHold = th) := by decide
theorem witness_FuseMapLoad :
    ({ up with rst.phase := .regulators }).rst.phase = .regulators
    ∧ ({ up with rst.phase := .regulators }).lcy.eraseMarker = none := by decide
theorem witness_InterruptedEraseCompletes :
    let s := { up with rst := { phase := .regulators }, lcy := { eraseMarker := some .ret } }
    s.rst.phase = .regulators ∧ s.lcy.eraseMarker = some .ret := by decide

/-- The boot ROM stands at a stage, with a BOOT strap. -/
def rom (st : Stage) (boot : BitVec 2) : State := { State.reset with rst := { phase := .running, stage := st, boot := boot } }

theorem witness_BootPaths :
    ({ State.reset with rst := { phase := .fused } }).rst.phase = .fused
    ∧ (live (rom .read 0) = true ∧ (rom .read 0).rst.stage = .read ∧ (rom .read 0).rst.boot = 0)
    ∧ (rom .read 1).rst.boot ≠ 0 ∧ (rom .waitHost 2).rst.stage = .waitHost
    ∧ (checkImage (imgAt 0x2000000 (rom .read 0)) true none (rom .read 0).lcy.shadow (rom .read 0)).isSome = true
    ∧ (checkImage (imgOf []) false none (rom .read 1).lcy.shadow (rom .read 1)).isSome = true
    ∧ (checkImage (imgAt 0x1000000 (rom .waitHost 2)) true (some 0) (rom .waitHost 2).lcy.shadow
        (rom .waitHost 2)).isSome = true := by decide

/-! ### Supply, wake, clocks -/

theorem witness_SupplySamples :
    let s := fun (en : Nat) (armed : Bool) => { up with
      sup := { sagStep := 1, bowArmed := armed, bowLow := 2, bowHigh := 999, sagLow := Vector.replicate 4 2 }
      cfg := [(0x2015, en)] }
    let level := fun k => 1700 + 20 * fld 0x02 (0x010 + k) (s 1 true)
    let cnt := fun mv k => if mv < level (k + 1) then min 3 (vget (s 1 true).sup.sagLow k 0 + 1) else 0
    fld 0x02 0x015 (s 1 true) = 1 ∧ fld 0x02 0x015 (s 0 true) ≠ 1 ∧ (s 1 true).sup.sagStep < 4
    ∧ ((s 1 true).sup.bowArmed = true ∧ 0 < level 0 ∧ (s 1 true).sup.bowLow + 1 = 3) ∧ (s 1 false).sup.bowArmed = false
    ∧ (∀ k, k < 4 → cnt 0 k = 3) ∧ (cnt (level 3 - 1) 1 = 3 ∧ cnt (level 3) 2 ≠ 3) ∧ level 3 < level 2 := by decide
theorem witness_SagStepFalls :
    let s := { up with sup := { sagStep := 4, nowMv := 3600 } }
    0 < s.sup.sagStep ∧ s.sup.sagStep ≤ 4 ∧ 1700 + 20 * fld 0x02 (0x010 + s.sup.sagStep) s + 40 < s.sup.nowMv := by decide
theorem witness_BoostEvents :
    let s := fun (p : BoostPhase) => { up with boost := { phase := p } }
    (s .softStart).boost.phase = .softStart ∧ (s .softStart).boost.pgood = false ∧ (s .on).boost.phase = .on
    ∧ (s .ovpStop).boost.phase = .ovpStop := by decide
theorem witness_RegulatorsAndKeepCharge :
    live up = true ∧ ({ up with sup.usbPump := true }).sup.usbPump = true ∧ up.sup.vsupUp = true
    ∧ up.sup.keepCharged = false ∧ ({ up with sup.keepCharged := true }).sup.keepCharged = true
    ∧ ({ up with sup.keepCharged := true }).sup.vsupUp = true := by decide
theorem witness_WakeSources :
    let s := fun (m : PowerMode) (en : Nat) => { up with
      sup := { modeCur := m, wakeTimerOn := true }
      cfg := [(0x2002, en)] }
    (s .listen 0).sup.modeCur = .listen ∧ (fld 0x02 0x002 (s .listen 0)).testBit 6 = false
    ∧ (s .standby 127).sup.modeCur = .standby ∧ (fld 0x02 0x002 (s .standby 127)).testBit 6 = true
    ∧ (fld 0x02 0x002 (s .shutdown 127)).testBit 1 = true ∧ (s .shutdown 0).sup.modeCur = .shutdown
    ∧ (s .listen 127).sup.wakeTimerOn = true := by decide
theorem witness_ReferenceAndPll :
    let s := fun (c : BitVec 2) (r : RefState) => { up with
      rst := { phase := .running, stage := .running, ckmode := c }
      clk := { refState := r, refBad := 2, refGood := 32, mclkKind := 2, pllLock := true } }
    live (s 0 .locked) = true ∧ (s 0 .locked).rst.ckmode = 0 ∧ 690 ≤ 690 ∧ 810 ≤ 810 ∧ 689 < 690 ∧ 810 < 811
    ∧ (s 1 .locked).rst.ckmode = 1 ∧ (s 1 .locked).clk.mclkKind = 2 ∧ 2 ≤ (s 2 .locked).rst.ckmode.toNat
    ∧ (s 0 .locked).clk.refBad = 2 ∧ (s 0 .holdover).clk.refGood = 32 ∧ (s 0 .locked).clk.refState = .locked
    ∧ (s 0 .holdover).clk.refState = .holdover ∧ (s 0 .acquiring).clk.refState = .acquiring
    ∧ (s 0 .locked).clk.pllLock = true := by decide

/-! ### The whole machine -/

theorem witness_StepRunsTheFrontCommand :
    ({ up with pending := [.ringAck] }).pending = .ringAck :: [] ∧ State.reset.pending = [] := by decide
theorem witness_MemoryStaysCanonical : State.reset.memWf = true ∧ ∃ t, step State.reset = .next t := ⟨by decide, _, rfl⟩
theorem witness_VoidIsFinal :
    let s := { up with
      lcy := { code := .void, shadow := .void }
      rst := { phase := .running, stage := .void } }
    (VoidFinal s ∧ ∃ t, step s = .next t)
    ∧ ({ up with lcy := { quiet := some .toVoid } }).lcy.quiet = some .toVoid
    ∧ ({ up with lcy := { quiet := some .toVoid } }).lcy.eraseMarker = none := by
  refine ⟨⟨?_, _, rfl⟩, by decide, by decide⟩
  unfold VoidFinal
  decide

/-! ### Steward-only words and blocks -/

/-- A word of a source passes every check, as a Bool. -/
theorem passes_of {src : Source} {o : StwOp} {l : Nat} {s : State}
    (h : (if src = .steward then stwReady s else serves s && (sourceReady src s && turnOf src s)) = true)
    (h' : (wordErr src o true (heard src o l s)).isNone = true) : Passes src o l s := by
  refine ⟨?_, Option.isNone_iff_eq_none.mp h'⟩
  unfold Accepts
  by_cases e : src = .steward
  · rw [if_pos e] at h ⊢; exact h
  · rw [if_neg e] at h ⊢; simpa only [Bool.and_eq_true] using h

theorem witness_OneWordCommands :
    wordOf (.claim .host 0x18 0xFFFF) up = some (.host, .claim 0x18 0xFFFF, 0)
    ∧ ¬ Accepts .host State.reset ∧ Passes .host (.claim 0x18 0xFFFF) 0 up ∧ needsPerform (.claim 0x18 0xFFFF) = false
    ∧ wordErr .host (.claim 0x3E 0) true (heard .host (.claim 0x3E 0) 0 up) = some (2, 0)
    ∧ (let v := { up with rst := { up.rst with stage := .void }, lcy := { code := .void, shadow := .void } }
       ¬ Accepts .host v ∧ live v = true ∧ v.lcy.shadow = .void ∧ sourceReady .host v = true)
    ∧ Passes .steward (.calrun 2 false 0) 0 up ∧ needsPerform (.calrun 2 false 0) = true
    ∧ (Source.usb ≠ .steward) := by
  refine ⟨by decide, ?_, passes_of (by decide) (by decide), by decide, by decide, ⟨?_, by decide⟩,
    passes_of (by decide) (by decide), by decide, by decide⟩ <;> unfold Accepts <;> decide
theorem witness_Responses :
    up.ring.blkFrom = none ∧ ({ up with ring := { blkFrom := some (5, 31) } }).ring.blkFrom = some (5, 31)
    ∧ ({ busy := true } : MbxState).busy = true ∧ 15 < 16 ∧ 255 < 256 := by decide
theorem witness_FieldWrites :
    (0x02 ∈ [0x02, 0x09, 0x0A, 0x0B, 0x18, 0x19, 0x20, 0x21, 0x29, 0x3F])
    ∧ ¬ ((0x02 : BitVec 6) = 0x02 ∧ (0x010 : BitVec 12) = 0x015)
    ∧ Passes .host (.cfg 0x02 0x010 20) 0 up ∧ Passes .host (.cfg 0x0A 0 16) 0 up ∧ Passes .host (.cfg 0x02 0x010 20) 1 up
    ∧ Passes .steward (.cfg 0x02 0x010 20) 0 up :=
  ⟨by decide, by decide, passes_of (by decide) (by decide), passes_of (by decide) (by decide),
    passes_of (by decide) (by decide), passes_of (by decide) (by decide)⟩
theorem witness_ClaimsAndReleases :
    let s := fun (l : List (Source × Nat × Nat)) => { up with cmd := { claims := l } }
    let mine := fun (t : State) => claimed .host (.claim 0x18 0xFFFF) (takenIn .host 0 t) = false
      ∧ heldBy .host (.claim 0x18 0xFFFF) (takenIn .host 0 t) = false
    let full := s ((List.range 64).map fun k => (.host, 0x08, k))
    blockListed 0x18 = true ∧ claimUnitOk 0x18 0xFFFF = true ∧ Accepts .host (s []) ∧ Accepts .host full
    ∧ mine (s []) ∧ mine (s [(.host, 0x18, 0xFFFF)]) ∧ mine full
    ∧ (full.cmd.claims.countP (fun x => x.1 == .host) = 64)
    ∧ claimed .host (.claim 0x18 0xFFFF) (takenIn .host 0 (s [(.usb, 0x18, 0xFFFF)])) = true := by
  refine ⟨by decide, by decide, ?_, ?_, by decide, by decide, by decide, by decide, by decide⟩ <;> unfold Accepts <;> decide

/-- Lane 0 has a verified region at 0 and a start record for it at 0x800000; stream 5 has a writer and a reader. -/
def starts : State := { up with
  lane := { regions := [{ base := 0, words := 16, entry := 0, dataMin := 16 }] }
  mem := { cells := [(0x800005, 0x10), (0x800009, 0x10)] }
  strm := { s := [(5, { writer := some (1, 0), readers := [(1, 0)] })] } }

theorem witness_ContextsAndRoutes :
    Passes .host (.cstart 7 0x800000) 1 starts
    ∧ (let s := { up with lane := { ctx := [(7, { st := .running })] } }
       Passes .host (.cstop 7 false) 0 s ∧ (pendCtx 7 s).st ≠ .stopped)
    ∧ (let s := { up with lane := { ctx := [(7, { st := .stopped })] } }
       Passes .host (.cstop 7 false) 0 s ∧ (pendCtx 7 s).st = .stopped ∧ Passes .host (.cstop 7 true) 0 s)
    ∧ Passes .host (.route .writer 1 0 6) 0 up ∧ (smGet {} 6 (pendStreams up)).writer ≠ some (1, 0)
    ∧ Passes .host (.route .writer 1 0 5) 0 starts ∧ (smGet {} 5 (pendStreams starts)).writer = some (1, 0)
    ∧ Passes .host (.route .reader 1 3 5) 0 starts ∧ (1, 3) ∉ (smGet {} 5 (pendStreams starts)).readers
    ∧ Passes .host (.route .reader 1 0 5) 0 starts ∧ (1, 0) ∈ (smGet {} 5 (pendStreams starts)).readers
    ∧ Passes .host (.route .unread 1 0 5) 0 starts
    ∧ Passes .host (.route .free 0 0 5) 0 starts
    ∧ Passes .host (.route .free 0 0 6) 0 up ∧ (smGet {} 6 (pendStreams up)).readers = [] := by
  refine ⟨passes_of ?_ ?_, ⟨passes_of ?_ ?_, ?_⟩, ⟨passes_of ?_ ?_, ?_, passes_of ?_ ?_⟩, passes_of ?_ ?_, ?_, passes_of ?_ ?_,
    ?_, passes_of ?_ ?_, ?_, passes_of ?_ ?_, ?_, passes_of ?_ ?_, passes_of ?_ ?_, passes_of ?_ ?_, ?_⟩ <;> decide
theorem witness_BankStateWords :
    Passes .host (.bankpwr 1 8 .off) 0 up ∧ (decide ((1 : BitVec 5).toNat ≤ 16) = true ∧ 3 < 4 ∧ (8 : BitVec 4).toNat = 2 ^ 3)
    ∧ smGet .on (4 * 1 + 3) up.mem.power ≠ .off ∧ Passes .host (.bankpwr 1 8 .on) 0 up
    ∧ Passes .host (.bankpwr 19 15 .off) 0 up ∧ decide ((19 : BitVec 5).toNat ≤ 16) = false := by
  refine ⟨passes_of ?_ ?_, ?_, ?_, passes_of ?_ ?_, passes_of ?_ ?_, ?_⟩ <;> decide
theorem witness_BlockResets :
    (∀ b ∈ [0x18, 0x20, 0x21, 0x28, 0x29, 0x2A, 0x30, 0x31, 0x32, 0x38, 0x39], Passes .host (.breset b 0xFFFF) 0 up)
    ∧ Passes .host (.breset 0x08 15) 0 up ∧ smWf (fun _ => {}) up.lane.ctx = true ∧ Passes .steward (.breset 0x03 0xFFFF) 0 up := by
  refine ⟨fun b hb => passes_of ?_ ?_, passes_of ?_ ?_, ?_, passes_of ?_ ?_⟩
  · decide
  · revert b; decide
  all_goals decide
theorem witness_LifeCycleRequests :
    let life := fun (l : Life) (m : BitVec 16) => { up with
      lcy := { code := l, shadow := l, keyMask := m }
      cmd := { claims := [(.host, 0x04, 0xFFFF)] } }
    Passes .host (.writeToken 5) 2 (life .sealed 0) ∧ Passes .host (.fuseWrite 0x02E 7) 1 (life .develop 0)
    ∧ Passes .steward (.fuseWrite 0x04F 7) 1 (life .fab 0) ∧ Passes .host (.voidReq 0x564F4944) 1 (life .sealed 0)
    ∧ Passes .host .seal 0 (life .develop 0xFFFF)
    ∧ (Accepts .steward (life .develop 0) ∧ (life .develop 0).lcy.shadow ≠ .fab)
    ∧ ({ up with spk := { ch := Vector.replicate 2 { state := .running } } } : State).spk.ch[0].state = .running
    ∧ (∀ q : QuietKind, ({ up with lcy := { quiet := some q } }).lcy.quiet = some q) := by
  refine ⟨passes_of ?_ ?_, passes_of ?_ ?_, passes_of ?_ ?_, passes_of ?_ ?_, passes_of ?_ ?_, ⟨?_, ?_⟩, ?_, fun q => rfl⟩
  iterate 10 decide
  · unfold Accepts; decide
  all_goals decide

/-- A block waits in the host's mailbox. -/
def asked (ws : List Word) : State := { up with cmd := { hostBlk := some ws } }

theorem witness_BlocksTakenIn :
    up.cmd.last = .ring ∧ (serves State.reset = false) ∧ nextBlock up = none
    ∧ serves (asked [0xB1002A0F]) = true ∧ nextBlock (asked [0xB1002A0F]) = some (.host, [0xB1002A0F])
    ∧ (0xB1002A0F / 2 ^ 16 = 0xB100 ∧ 1 ≤ 0xB1002A0F % 2 ^ 8 ∧ 0xB1002A0F % 2 ^ 8 ≤ 15) ∧ ¬ (0 / 2 ^ 16 = 0xB100) := by decide
theorem witness_PerformEntry :
    (∀ u ∈ [0, 1], Passes .host (.calrun 1 false u) 0 { up with cfg := [(0x22001, 1), (0x23001, 1)] })
    ∧ Passes .host (.calrun 2 false 5) 0 up := by
  refine ⟨fun u hu => passes_of ?_ ?_, passes_of ?_ ?_⟩
  · decide
  · revert u; decide
  all_goals decide

/-- The host's block performs one word. -/
def performing1 (o : StwOp) (r : List Job) : State :=
  { up with cmd := { jobs := { src := .host, tag := 3, ops := [(2, o)] } :: r } }

/-- A boot image of R108 with one section of four bytes, signed; its CRCs and its signature are computed outside the model
from the rules of chapter 05. -/
def signedImage : List Byte :=
  [ 64, 148, 167, 176, 1, 0, 0, 0, 1, 0, 0, 0, 148, 0, 0, 0, 1, 0, 0, 0, 0, 0, 128, 0, 0, 0, 0, 0, 0, 0, 0, 0, 109,
  96, 170, 114, 238, 86, 51, 205, 0, 0, 0, 0, 0, 0, 0, 0, 0, 0, 0, 0, 0, 0, 0, 0, 0, 0, 0, 0, 0, 0, 0, 0, 0, 0,
  128, 0, 4, 0, 0, 0, 0, 0, 0, 0, 0, 0, 0, 0, 1, 0, 0, 0, 249, 153, 194, 69, 13, 127, 166, 251, 228, 255, 0, 222,
  78, 188, 122, 229, 103, 20, 102, 13, 81, 31, 205, 177, 100, 205, 84, 249, 168, 110, 199, 87, 249, 153, 194, 69,
  13, 127, 166, 251, 228, 255, 0, 222, 78, 188, 122, 229, 103, 20, 102, 13, 81, 31, 205, 177, 100, 205, 84, 249,
  168, 110, 199, 87]

/-- The key that signed it. -/
def imageKey : SMap Word :=
  [(0x40, 0x1FBDCBF4), (0x41, 0xD83E265A), (0x42, 0x29A61708), (0x43, 0xB80C0DE7), (0x44, 0x140E37B1), (0x45,
  0x6C805270), (0x46, 0xA8E3825F), (0x47, 0xD5429B76), (0x48, 0x3EE0C296), (0x49, 0x8540F1E7), (0x4A, 0xF01F1F49),
  (0x4B, 0xBAAEFDF2), (0x4C, 0x33C2574A), (0x4D, 0x0C0CA889), (0x4E, 0x81515A64), (0x4F, 0x11E239C8)]

/-- Memory that holds bytes from an address on. -/
def cellsAt (a : Nat) (bs : List Byte) : SMap Byte := (bs.zipIdx.map fun p => (a + p.2, p.1)).filter (·.2 != 0)

/-- The image in slot A, with its key. -/
def slotA : State := { up with
  mem := { cells := cellsAt 0x2000000 signedImage }
  lcy := { keyWords := imageKey, keyMask := 0xFFFF, keyLoad := imageKey, keyLoadMask := 0xFFFF } }

/-- R108, R109: the image passes every check; with one bit of its section changed BODY_CRC fails. -/
theorem test_image_checks : checkImage (imgAt 0x2000000 slotA) true none .sealed slotA = none
    ∧ checkImage (imgOf (signedImage.set 80 3)) true none .sealed slotA = some (0xB, 6) := by decide +kernel

/-- The boot ROM finds the image in a place. -/
def romWith (st : Stage) (boot : BitVec 2) (a : Nat) : State := { rom st boot with
  mem := { cells := cellsAt a signedImage }
  win := { mailbox := [(0, 148)] } }

theorem witness_BootPaths_hands :
    checkImage (imgAt 0x2000000 (romWith .read 0 0x2000000)) true none .develop (romWith .read 0 0x2000000) = none
    ∧ checkImage (imgAt 0x2080000 (romWith .read 0 0x2080000)) true none .develop (romWith .read 0 0x2080000) = none
    ∧ checkImage (imgAt 0x2000000 (romWith .read 0 0x2080000)) true none .develop (romWith .read 0 0x2080000) ≠ none
    ∧ checkImage (imgOf ((some signedImage).getD [])) true none .develop (rom .read 1) = none
    ∧ checkImage (imgAt 0x1000000 (romWith .waitHost 2 0x1000000)) true (some 148) .develop
        (romWith .waitHost 2 0x1000000) = none
    ∧ (let m := fun k => smGet 0 k (romWith .waitHost 2 0x1000000).win.mailbox
       (m 3 ++ m 2 ++ m 1 ++ m 0).toNat = 148) := by decide +kernel

theorem witness_PerformPhases :
    let r : PerfRes := { idx := 2 }
    let late : PerfRes := { idx := 2, timeout := true }
    let ref := { up with cfg := [(0x22002, 1)] }
    let good := fun (o : StwOp) (x : PerfRes) => perfErr o x ref = none ∧ stateErr .host o (perfRecord o x ref) = none
    (performing1 (.calrun 2 false 0) []).cmd.jobs = [{ src := .host, tag := 3, ops := [(2, .calrun 2 false 0)] }]
    ∧ r.idx = 2 ∧ perfErr (.calrun 2 false 0) late up = some (9, 1) ∧ needsPerform (.calrun 2 false 0) = true
    ∧ (2 : Fin 15).val = 2 ∧ (∀ k ∈ [1, 2, 3, 4], good (.calrun k false 0) { r with vals := [50, 80] })
    ∧ perfErr (.calrun 3 false 0) { r with sub := 5 } up = some (8, 5) := by decide
theorem witness_PerformPhases_seal :
    perfErr .seal { idx := 2 } slotA = none ∧ stateErr .host .seal (perfRecord .seal { idx := 2 } slotA) = none
    ∧ stateErr .host .seal up ≠ none := by decide +kernel
/-- A MIC_ARRAY run with speaker channel 0 running. -/
theorem witness_PerformPhases_array :
    let s := { up with spk := { ch := (Vector.replicate 2 {}).set 0 { state := .running } } }
    perfErr (.calrun 5 false 0) { idx := 2 } s = none ∧ stateErr .host (.calrun 5 false 0) (perfRecord (.calrun 5 false 0) { idx := 2 } s) = none := by decide
/-- A LOAD of one NOP. -/
theorem witness_PerformPhases_load :
    let s := { up with mem := { cells := cellsAt 0x800018 (leBytes (crc32 [0, 0, 0, 4]) ++ [0, 0, 0, 0, 0, 0, 0, 4]) } }
    perfErr (.loadAt 0 0x800000 1 0 0) { idx := 2 } s = none
    ∧ stateErr .host (.loadAt 0 0x800000 1 0 0) (perfRecord (.loadAt 0 0x800000 1 0 0) { idx := 2 } s) = none
    ∧ s.memWf = true := by decide +kernel

/-! ### Action fields, the frame, power modes, the two-wire ports -/

theorem witness_ActionFields :
    (∀ p ∈ [(0x03, 0x002, 0x5A), (0x06, 0x00A, 1), (0x08, 0x002, 1), (0x14, 0x014, 1), (0x1A, 0x001, 1),
      (0x28, 0x014, 5), (0x38, 0x007, 1), (0x39, 0x041, 1), (0x39, 0x042, 1)], Passes .host (.cfg p.1 p.2.1 p.2.2) 0 up)
    ∧ Passes .host (.cfg 0x32 0x014 0x800000) 1 up ∧ Passes .host (.cfg 0x38 0x010 0x800000) 1 up
    ∧ Passes .host (.cfg 0x06 0x009 1) 0 { up with cfg := [(0x6004, 1)] }
    ∧ Passes .host (.cfg 0x15 0x004 1) 0 { up with ring := { state := .trained, role := true } }
    ∧ Passes .host (.cfg 0x15 0x005 0x800000) 1 { up with ring := { state := .trained } }
    ∧ Passes .host (.cfg 0x1A 0x003 0x800000) 1 { up with vault := { open_ := true } }
    ∧ Passes .host (.cfg 0x22 0x006 1) 0 { up with cfg := [(0x22001, 1), (0x22005, 0)] }
    ∧ Passes .host (.cfg 0x22 0x007 3) 0 { up with cfg := [(0x22001, 1)] }
    ∧ Passes .host (.cfg 0x30 0x018 1) 0 { up with spk := { ch := (Vector.replicate 2 {}).set 0 { state := .latched } } }
    ∧ (wordAt 0x800000 { up with mem := { cells := [(0x800001, 5)] } }).toNat % 256 ≠ 1 := by
  refine ⟨fun p hp => passes_of ?_ ?_, ?_⟩
  · decide
  · revert p; decide
  refine ⟨?_, ?_, ?_, ?_, ?_, ?_, ?_, ?_, ?_, ?_⟩
  case refine_10 => decide
  all_goals refine passes_of ?_ ?_ <;> decide

theorem witness_FrameTick :
    ticking up = true ∧ up.sup.drainWait = none ∧ pend 0x02 0x001 up = 0 ∧ smWf fieldReset up.cfg = true
    ∧ flowPending up = false ∧ timingPending up = false
    ∧ (let s := { up with flow := [.field 0x2010 5] }; pend 0x02 0x001 s = 0 ∧ flowPending s = true)
    ∧ (let s := { up with flow := [.field 0x1010 1] }; pend 0x02 0x001 s = 0 ∧ timingPending s = true)
    ∧ (let s := { up with flow := [.field 0x2001 1] }
       pend 0x02 0x001 s ≠ 0 ∧ s.mem.glQueue = [] ∧ modeOf (pend 0x02 0x001 s) ≠ .shutdown)
    ∧ ticking State.reset = false ∧ ({ up with sup := { drainWait := some .listen } }).sup.drainWait ≠ none := by decide
theorem witness_FrameExchange :
    let s := { strm0 {} with cfg := [] }
    ticking s = true ∧ s.sup.drainWait = none ∧ pend 0x02 0x001 s = 0 ∧ smWf fieldReset s.cfg = true
    ∧ smWf (fun _ => ({} : Ctx)) s.lane.ctx = true ∧ smWf (fun _ => ({} : Stream)) s.strm.s = true ∧ s.flow = []
    ∧ s.lane.fails = [] ∧ (ctxAt 0 s).st = .running ∧ (ctxAt 1 s).st ≠ .running ∧ (strm 5 s).writer = some (1, 0) := by decide
theorem witness_ModeEntryAndExit :
    let s := fun (p : SupState) => { up with sup := p }
    (s { drainWait := some .listen }).mem.glQueue = [] ∧ PowerMode.listen ≠ .shutdown
    ∧ (s { drainWait := some .listen, wakePend := 2 }).sup.wakePend ≠ 0
    ∧ ({ s { drainWait := some .listen } with mem := { glQueue := [(0x2000000, 1)] } }).mem.glQueue ≠ []
    ∧ (s { drainWait := some .listen }).vault.exporting = none ∧ up.sup.drainWait = none
    ∧ (s { waking := true, modeCur := .listen }).sup.modeCur ≠ .run ∧ smWf fieldReset up.cfg = true := by decide
theorem witness_TwoWireController :
    let buf := fld 0x06 0x006 up
    rangeOn buf 4 up = true ∧ (∀ x ∈ List.range 8, copying (buf + x) up = false ∧ ramOpen (buf + x) up = false)
    ∧ buf % 4 = 0 ∧ up.memWf = true
    ∧ rangeOn 0x800000 4 { up with cfg := [(0x6004, 4), (0x6006, 0x800000)], mem := { power := [(68, .off)] } } = false := by decide
theorem witness_HostTarget :
    let hit := fun (a : BitVec 7) (base en : Nat) (u : State) => (en = 0 ∨ fld 0x05 en u = 1) ∧ 8 ≤ a.toNat ∧ a.toNat < 0x78
      ∧ (a ^^^ BitVec.ofNat 7 (fld 0x05 base u)) &&& BitVec.ofNat 7 (fld 0x05 (base + 1) u) = 0
    let own := BitVec.ofNat 7 (fld 0x05 0x001 up)
    hit own 0x001 0 up ∧ ¬ hit (own + 1) 0x001 0 up ∧ ¬ hit (own + 1) 0x003 0x005 up ∧ up.twh.copying = false ∧ twhUp up = true
    ∧ up.sup.modeCur = .run ∧ up.lcy.shadow ≠ .void ∧ up.rst.stage ≠ .waitHost ∧ up.twh.part = []
    ∧ ({ up with twh := { active := true, reading := true, snap := some (0x0C, 8, 7) } }).twh.snap = some (0x0C, 8, 7) := by decide
theorem witness_HostWindow :
    twhUp up = true ∧ hostServed up = true ∧ up.win.mbx.busy = false ∧ up.rst.stage ≠ .waitHost ∧ up.lcy.shadow ≠ .void
    ∧ smWf (fun _ => ({} : Ctx)) up.lane.ctx = true ∧ up.twh.aptWrite = none
    ∧ twhUp { up with lcy := { shadow := .void } } = true
    ∧ hostServed { up with stw := { faulted := true } } = false := by decide
theorem witness_ApertureWrites :
    let s := fun (a : Word) => { up with twh := { aptWrite := some (a, 5, 0xF) } }
    (∀ a ∈ [0x400000, 0x800000, 0x3000000], portMay .aperture true a (s (BitVec.ofNat 32 a)) = true)
    ∧ memUnit 0x3000000 = none ∧ isReg 0x3000000 = false
    ∧ memUnit 0x800000 = some 17 ∧ memUnit 0x400000 = some 16
    ∧ addrOn 0x800000 up = true ∧ copying 0x800000 up = false ∧ brineHolds 0x800000 up = false ∧ verified 0x800000 up = false
    ∧ addrOn 0x400000 up = true ∧ brineHolds 0x400000 up = false ∧ ramOpen 0x800000 up = false ∧ up.memWf = true
    ∧ addrOn 0x800000 { up with mem := { power := [(68, .off)] } } = false := by decide

/-! ### The debug port, serial ports, USB -/

theorem witness_DebugFrames :
    let full := { up with mem := { glQueue := (List.range 16).map fun k => (0x2000000 + 4 * k, 0) } }
    up.rst.phase = .running ∧ State.reset.rst.phase = .unpowered ∧ up.lcy.quiet = none ∧ up.lcy.shadow = .develop
    ∧ up.lcy.authFails < 256 ∧ up.dbg.nonce = none ∧ ({ up with lcy := { quiet := some .soft } }).lcy.quiet ≠ none
    ∧ ({ up with lcy := { shadow := .sealed } }).lcy.shadow = .sealed ∧ up.vault.open_ = false
    ∧ isReg 0x40000000 = true ∧ (∀ x ∈ [0, 0x400000, 0x1C00000, 0x2000000, 0x3000000], isReg x = false)
    ∧ memUnit 0 = some 0 ∧ memUnit 0x400000 = some 16 ∧ memUnit 0x1C00000 = some 20 ∧ memUnit 0x2000000 = some 21
    ∧ memUnit 0x3000000 = none ∧ full.mem.glQueue.length = 16 ∧ (∀ q ∈ full.mem.glQueue, q.1 ≠ 0x2000100)
    ∧ addrOn 0 up = true ∧ copying 0 up = false ∧ brineHolds 0 up = false ∧ ramOpen 0 up = false ∧ verified 0 up = false
    ∧ up.memWf = true ∧ (0 : Byte) ≠ dbgCheck .dread 0 [] := by decide +kernel
theorem witness_DebugCommands :
    let d := fun (f : DbgState) => { up with dbg := f }
    let waits := { d { halted := true, step := true } with cmd := { hostBlk := some [0xB10001] } }
    (up.rst.phase = .running ∧ up.dbg.auth = none ∧ up.lcy.quiet = none ∧ up.lcy.shadow = .develop)
    ∧ serves waits = true ∧ nextBlock waits = some (.host, [0xB10001]) ∧ nextBlock (d { halted := true, step := true }) = none
    ∧ (d { arg := 0x564F4944 }).dbg.arg = 0x564F4944 ∧ up.dbg.arg ≠ 0x564F4944
    ∧ (d { lockout := true }).dbg.lockout = true ∧ (d { auth := some .vendor, authOk := true }).dbg.authOk = true
    ∧ (0 : Byte) ≠ dbgCheck .dwrite 2 [0x01] := by decide +kernel
/-- R123, R129: a token whose hash is stored. -/
theorem witness_DebugCommands_token :
    let s := { up with
      lcy := { shadow := .sealed, tokenHash := some (sha256 (beBytes64 7)) }
      dbg := { token := 7, nonce := some 1 } }
    s.lcy.tokenHash = some (sha256 (beBytes64 s.dbg.token)) ∧ s.dbg.nonce = some 1 ∧ s.lcy.shadow = .sealed
    ∧ sha256 (beBytes64 7) ≠ sha256 (beBytes64 8) := by decide +kernel

/-- Serial port 0 in a state, its fields set. -/
def port0 (x : SpState) (q : PortQ) (c : SMap Nat) : State := { up with
  sp := (Vector.replicate 4 {}).set 0 x, clk := { ports := (Vector.replicate 6 {}).set 0 q }, cfg := c }

theorem witness_QueuesOfAPort :
    let s := port0 { state := .running } { inQ := [[(0, 5)]], outQ := [[(0, 7)]] } []
    let u := { up with
      usb := { state := .configured, altOut := true, outRing := [[(0, 1)]] }, sup := { vsupUp := true, vbus := true } }
    live s = true ∧ portRuns 0 s = true ∧ live State.reset = false ∧ portRuns 1 s = false
    ∧ (portQ 0 s).inQ.length < portDepth 0 / portCh 0 false s ∧ (portQ 0 s).inBuf.length < frameLen s
    ∧ (portQ 0 s).outPos < frameLen s ∧ (portQ 0 s).outQ.length < portDepth 0 / portCh 0 true s
    ∧ portRuns 4 u = true ∧ u.usb.outRing = [[(0, 1)]] ∧ (portQ 4 u).inQ.length < portDepth 4 / portCh 4 false u
    ∧ (let f := port0 { state := .running } { inQ := List.replicate 64 [], outQ := List.replicate 64 [], outPos := 48 } []
       portDepth 0 / portCh 0 false f ≤ (portQ 0 f).inQ.length ∧ portDepth 0 / portCh 0 true f ≤ (portQ 0 f).outQ.length
       ∧ frameLen f ≤ (portQ 0 f).outPos) := by decide
theorem witness_TrackingBanks :
    let s := port0 { state := .running } {} [(0x10003, 0)]
    live s = true ∧ bankMode 0 s = .tracking ∧ portRuns 0 s = true ∧ s.clk.trackLock.getLsbD 0 = false ∧ bankUsed 0 s = true
    ∧ bankMode 0 (port0 { state := .running } {} [(0x10003, 1)]) ≠ .tracking
    ∧ ({ s with clk := { trackLock := 1 } }).clk.trackLock.getLsbD 0 = true := by decide
theorem witness_SlavePorts :
    let s := fun (x : SpState) => port0 x {} [(0x10003, 0)]
    let n := fld 0x10 0x005 (s {}) * (match fld 0x10 0x006 (s {}) with | 0 => 16 | 1 => 24 | _ => 32)
    live (s {}) = true ∧ fld 0x10 0x003 (s {}) = 0 ∧ fld 0x10 0x003 (port0 {} {} [(0x10003, 1)]) = 1
    ∧ (BitVec.ofNat 11 n).toNat = n ∧ (0 : BitVec 11).toNat ≠ n ∧ (spAt 0 (s { state := .seeking, edge := true, good := 7 })).good = 7
    ∧ (spAt 0 (s { state := .lost })).state = .lost ∧ (spAt 0 (s { state := .running, errRun := 3 })).errRun = 3 := by decide

/-- A configured USB device with VBUS valid. -/
def usb0 (u : UsbDev) : State := { up with usb := u, sup := { vsupUp := true, vbus := true, usbPump := true, vusbOk := true } }

theorem witness_UsbAttachAndReset :
    let s := usb0 { state := .configured }
    live s = true ∧ s.sup.vbus = true ∧ s.usb.state ≠ .detached ∧ s.usb.testMode = none ∧ up.sup.vbus = false
    ∧ fld 0x14 0x001 { usb0 {} with cfg := [(0x14001, 1)] } = 1 ∧ (usb0 {}).usb.state = .detached ∧ s.usb.dfuMode ≠ .bootRom
    ∧ (rom .waitDfu 1).rst.stage = .waitDfu ∧ live (rom .waitDfu 1) = true := by decide
theorem witness_UsbSuspendAndWake :
    let s := usb0 { state := .configured }
    let z := usb0 { state := .suspended, before := .configured, rwakeOn := true, reason := 1 }
    live s = true ∧ s.usb.state ≠ .suspended ∧ s.usb.state ≠ .l1 ∧ s.usb.state ≠ .detached ∧ s.rst.ckmode ≠ 2
    ∧ usbAnswers s = true ∧ s.usb.desc.lpm = true ∧ s.usb.altOut = false ∧ s.usb.altIn = false
    ∧ z.usb.state = .suspended ∧ z.usb.rwakeOn = true ∧ z.usb.reason ≠ 0 ∧ z.usb.hostK = false ∧ z.usb.driving = false
    ∧ (usb0 { state := .suspended, driving := true }).usb.driving = true := by decide
theorem witness_UsbRequests :
    let s := usb0 { state := .configured }
    usbAnswers s = true ∧ usbAnswers (usb0 { state := .default }) = true ∧ usbAnswers (usb0 { state := .addressed }) = true
    ∧ s.usb.desc.lpm = true ∧ s.usb.desc.strings = [] ∧ 0 < s.usb.desc.outCh ∧ 0 < s.usb.desc.inCh ∧ s.usb.desc.hid = true
    ∧ s.usb.desc.rates.testBit 3 = true ∧ mixHz (fld 0x01 0x010 s) ≤ 4 * usbHz 3 ∧ usbHz 3 ≤ 4 * mixHz (fld 0x01 0x010 s)
    ∧ s.usb.desc.rates.testBit 0 = false ∧ (∀ k : Fin 6, usbHz k.val ≠ 11025)
    ∧ (usb0 { state := .configured, desc := { strings := [[1], [2]] } }).usb.desc.strings = [[1], [2]]
    ∧ (usb0 { state := .configured, report2 := true }).usb.report2 = true := by decide
theorem witness_UsbPackets :
    let s := usb0 { state := .configured, altOut := true, altIn := true, outRing := List.replicate 96 []
                    rate := 3, sof := [294912] }
    usbAnswers s = true ∧ s.usb.outRing.length + 1 ≤ 2048 / usbCh false s ∧ s.rst.ckmode ≠ 2
    ∧ (s.usb.outRing.length : Int) - (usbHz s.usb.rate * 2 / (if s.usb.speed then 8000 else 1000) : Nat) = 0
    ∧ s.usb.sof ≠ [] ∧ (∀ x ∈ s.usb.sof, x ≤ 300000) := by decide
theorem witness_UsbVendorRequests :
    let s := usb0 { state := .configured }
    usbAnswers s = true ∧ s.cmd.usbMbx.busy = false ∧ s.cmd.usbBlk = none ∧ s.lcy.quiet = none
    ∧ (0x800000 : Word).toNat % 4 = 0 ∧ (64 : BitVec 16).toNat % 4 = 0 := by decide
theorem witness_DeviceFirmwareUpgrade :
    let s := usb0 { state := .configured, desc := { dfu := true } }
    let d := usb0 { state := .dfu, dfuMode := .runTime, dfu := .dfuIdle }
    let b := usb0 { state := .dfu, dfuMode := .bootRom, dfu := .dnloadIdle, dfuLen := 64 }
    usbAnswers s = true ∧ s.usb.desc.dfu = true ∧ s.cmd.claims = [] ∧ usbAnswers d = true ∧ usbAnswers b = true
    ∧ glProtected 0x2080000 d = false ∧ glProtected 0x2080000 { d with cfg := [(0x9011, 0x100)] } = true
    ∧ fld 0x14 0x00C d = 1
    ∧ b.usb.dfuLen + 1 ≤ 0x80000 ∧ b.memWf = true
    ∧ checkImage (imgAt 0x2080000 d) true none .develop d ≠ none := by decide +kernel
/-- The image in slot B, which DFU fills, and as the boot ROM has taken it in. -/
theorem witness_DeviceFirmwareUpgrade_image :
    let s := { romWith .read 0 0x2080000 with usb := { state := .dfu, dfuMode := .runTime, dfu := .manifestSync } }
    let b := { rom .waitDfu 1 with
      mem := { cells := cellsAt 0x1000000 signedImage }
      usb := { state := .dfu, dfuMode := .bootRom, dfu := .manifestSync, dfuLen := 148 } }
    (if fld 0x14 0x00C s = 1 then 0x2080000 else 0x2000000) = 0x2080000 ∧ usbAnswers s = true
    ∧ checkImage (imgAt 0x2080000 s) true none s.lcy.shadow s = none
    ∧ checkImage (imgAt 0x1000000 b) true (some b.usb.dfuLen) b.lcy.shadow b = none ∧ usbAnswers b = true := by decide +kernel

/-! ### The ring -/

/-- A frame with its CRC. -/
def sealFrame (f : RingFrame) : RingFrame := { f with crc := frameCrc f }
/-- A stomped frame. -/
def stomp (f : RingFrame) : RingFrame := { f with crc := ~~~frameCrc f }
/-- A frame with a wrong CRC that is not a stomped one. -/
def spoil (f : RingFrame) : RingFrame := { f with crc := frameCrc f ^^^ 1 }

/-- The CRC field is not covered by the CRC. -/
theorem frameCrc_crc (f : RingFrame) (c : Word) : frameCrc { f with crc := c } = frameCrc f := by
  simp only [frameCrc, frameBytes]

theorem frames_differ (f : RingFrame) :
    (sealFrame f).crc = frameCrc (sealFrame f) ∧ (stomp f).crc = ~~~frameCrc (stomp f)
    ∧ (spoil f).crc ≠ frameCrc (spoil f) ∧ (spoil f).crc ≠ ~~~frameCrc (spoil f) := by
  simp only [sealFrame, stomp, spoil, frameCrc_crc]
  generalize frameCrc f = c
  refine ⟨trivial, trivial, fun h => ?_, fun h => ?_⟩
  · simpa using congrArg (fun w : Word => w.getLsbD 0) h
  · simpa using congrArg (fun w : Word => w.getLsbD 1) h

/-- A trained node that transmits slot 7, with a message to send. -/
def nodeUp : State := { up with
  ring := { state := .trained, addr := 5, outbox := [{ typ := 1, src := 5 }] }
  strm := { s := [(9, { readers := [(4, 7)] })] }
  cfg := [(0x15100, 7)] }

theorem witness_RingForwarding :
    let f := sealFrame { ctl := { typ := 1, dst := 5, src := 3 }, written := 0x80 }
    smWf (fun _ => (0 : Word)) f.slots = true ∧ live nodeUp = true ∧ nodeUp.ring.role = false ∧ nodeUp.ring.leaveSent = false
    ∧ f.crc = frameCrc f ∧ f.ctl.dst = nodeUp.ring.addr ∧ f.ctl.typ.toNat < 0xC ∧ nodeUp.ring.badRun < 4
    ∧ nodeUp.ring.afterJoin = false ∧ txSlots nodeUp = [7] ∧ f.written.getLsbD 7 = true :=
  ⟨by decide, by decide, by decide, by decide, (frames_differ _).1, by decide, by decide, by decide, by decide, by decide +kernel,
    by decide⟩
theorem witness_RingMasterFrames :
    let m := fun (r : RingNode) => { up with ring := { r with role := true } }
    let s := m { state := .trained, present := 0x21 }
    let f := sealFrame { tag := uid0.setWidth 8 }
    let h := sealFrame { tag := uid0.setWidth 8 + 1 }
    live s = true ∧ s.ring.role = true ∧ s.ring.state = .trained ∧ s.ring.leaveSent = false ∧ s.ring.returned = []
    ∧ (m { state := .forming, formed := 48 }).ring.formed = 48 ∧ (m { state := .seek }).ring.state = .seek
    ∧ f.crc = frameCrc f ∧ f.tag = uid0.setWidth 8 ∧ h.crc = frameCrc h ∧ h.tag ≠ uid0.setWidth 8
    ∧ s.ring.present.getLsbD 5 = true ∧ 4 ≤ smGet 0 5 (m { missing := [(5, 4)] }).ring.missing
    ∧ (m { state := .trained, broken := true }).ring.broken = true ∧ s.ring.broken = false := by
  refine ⟨by decide, by decide, by decide, by decide, by decide, by decide, by decide,
    (frames_differ _).1, rfl, (frames_differ _).1, ?_, by decide, by decide,
    by decide, by decide⟩
  change uid0.setWidth 8 + 1 ≠ uid0.setWidth 8
  generalize uid0.setWidth 8 = c
  bv_omega
theorem witness_RingTraining :
    let s := fun (r : RingNode) => { up with ring := r }
    let has := fun (typ : BitVec 4) (m : RingMsg) => ([m].find? (fun x => x.typ == typ) = some m)
    live up = true ∧ (s { state := .seek }).ring.role = false ∧ (s { state := .check, clean := 240 }).ring.clean = 240
    ∧ (∀ u, has 3 { typ := 3, dst := 0x7E, data := u }) ∧ has 5 { typ := 5 } ∧ has 2 { typ := 2 } ∧ has 4 { typ := 4, src := 3 }
    ∧ ((1 : BitVec 64).getLsbD 1 = false) ∧ (∀ a : Fin 64, (0xFFFFFFFFFFFFFFFF : BitVec 64).getLsbD a = true)
    ∧ (s { lock := true }).ring.lock = true ∧ up.sup.modeCur = .run
    ∧ (let z := { up with sup := { modeCur := .listen }, cfg := [(0x2002, 0x20)] }
       live z = true ∧ (fld 0x02 0x002 z).testBit 5 = true) := by
  refine ⟨by decide, by decide, by decide, fun u => ?_, by decide, by decide, by decide, by decide, by decide, by decide,
    by decide, by decide⟩
  simp
theorem witness_RingMessages :
    let x : RingSend := { dst := 3, seq := 9 }
    let s := fun (m : RingMsg) => { up with ring := { state := .trained, addr := 5, send := some x, inbox := [m] } }
    let has := fun (typ : BitVec 4) (m : RingMsg) => (s m).ring.inbox.find? (fun y => y.typ == typ) = some m
    has 1 { typ := 1, src := 3, seq := 9 } ∧ x.tries < 3 ∧ x.op = .block ∧ has 7 { typ := 7, src := 3, seq := 9 }
    ∧ has 0xA { typ := 0xA, src := 3, seq := 9 } ∧ up.ring.send = none ∧ has 6 { typ := 6, src := 3, arg := 0x80 }
    ∧ (s {}).cmd.ringMbx.busy = false ∧ (s {}).cmd.ringBlk = none ∧ (s {}).lcy.quiet = none
    ∧ has 8 { typ := 8, data := 0x800000 } ∧ has 9 { typ := 9 } ∧ has 0xB { typ := 0xB } ∧ (s {}).ring.lastAcc = []
    ∧ (sysRead .ring 0 .clean up).1 = .ok 0 ∧ (sysWrite .ring 0 5 0xF false .clean up).1 = .ok 0
    ∧ (sysRead .ring 0x1C00000 .clean up).1 = .sealed ∧ (sysWrite .ring 0 5 0xF true .clean up).1 = .collided := by
  decide +kernel

/-! ### Microphones, converters, outputs -/

theorem witness_MicrophoneChannels :
    let s := { up with mic := { pdmClk := 1 }, cfg := [(0x18001, 0x10), (0x18010, 6), (0x18020, 1)] }
    live s = true ∧ s.mic.pga[(0 : Fin 4)] < fld 0x18 0x010 s ∧ fld 0x18 0x011 s ≤ s.mic.pga[(1 : Fin 4)]
    ∧ fld 0x18 0x010 s < ({ s with mic := { pga := Vector.replicate 4 9 } }).mic.pga[(0 : Fin 4)]
    ∧ s.mic.pdmClk.getLsbD 0 = true ∧ chEn 4 s = true ∧ s.mic.stuckNow.getLsbD 0 = false ∧ s.mic.pdmClk.getLsbD 1 = false
    ∧ biasOn 0 s = true ∧ biasOn 1 s = false ∧ (fld 0x18 0x001 s).testBit 4 = true ∧ s.mic.clipFrame = false := by decide
/-- The vault records two wake microphones in LISTEN. -/
def listening : State := { up with
  sup := { vsupUp := true, modeCur := .listen }
  cfg := [(0x19001, 4), (0x19002, 5), (0x19003, 1), (0x19007, 1), (0x1A004, 1)] }

theorem witness_HardwareWakes :
    live listening = true ∧ listening.sup.modeCur = .listen ∧ up.sup.modeCur = .run ∧ listening.wake.pttArmed = true
    ∧ listening.vault.index < 32000 ∧ listening.vault.valid ≤ 32000 ∧ vaultRecords listening = true
    ∧ listening.vault.open_ = false ∧ listening.lcy.quiet = none ∧ 0 < vaultC listening
    ∧ calRunning 5 none listening = false ∧ listening.wake.armed = true ∧ fld 0x19 0x001 listening = 4
    ∧ listening.mic.muted.getLsbD 0 = false ∧ -7000 + 100 * (fld 0x19 4 listening : Int) ≤ 0 ∧ fld 0x19 7 listening = 1
    ∧ ((some (-9000) : Option Int).getD 0) + 100 * (fld 0x19 5 listening : Int) ≤ 0
    ∧ 20 + 4 * fld 0x19 6 listening ≤ 500 := by decide
theorem witness_VaultCloses :
    let s := { listening with vault := { open_ := true, exporting := some 0x800000, valid := 100, lastIndex := 99 } }
    s.vault.open_ = true ∧ s.vault.exporting = some 0x800000 ∧ s.memWf = true ∧ s.vault.valid ≤ 32000
    ∧ s.vault.lastIndex < 32000 ∧ vaultC s ≤ 2 ∧ 0x800000 + 4 * (vaultC s * s.vault.valid) ≤ 0x1C00000
    ∧ up.vault.exporting = none ∧ up.vault.open_ = false := by decide
theorem witness_Converters :
    let s := { up with cfg := [(0x22001, 1), (0x22003, 1)]
                       spk := { ch := (Vector.replicate 2 {}).set 0 { state := .running } } }
    let sc := fun (x : SarState) => { s with sar := (Vector.replicate 2 {}).set 0 x }
    live s = true ∧ s.sup.modeCur = .run ∧ (spkAt 0 s).state = .running ∧ (spkAt 1 s).state = .off
    ∧ fld 0x32 0x010 s ≠ 1 ∧ fld 0x22 0x001 s = 1 ∧ fld 0x22 0x005 s ≠ 0 ∧ fld 0x23 0x001 s = 0
    ∧ sarCal 0 s = false ∧ fld 0x22 0x003 s = 1 ∧ calRunning 1 (some 0) s = false
    ∧ (sc { refrdy := true, scanning := true }).sar[(0 : Fin 2)].scanning = true
    ∧ (sc { refrdy := true, urgent := some 3 }).sar[(0 : Fin 2)].urgent = some 3
    ∧ fld 0x22 0x002 (sc {}) = 0 ∧ (fld 0x22 0x008 s).testBit 3 = false
    ∧ ((fld 0x22 0x008 { s with cfg := [(0x22008, 8)] }).testBit 3 = true)
    ∧ (sc { queue := [5] }).sar[(0 : Fin 2)].queue = [5] := by decide
theorem witness_LineOutputsAndTones :
    let s := { up with
      cfg := [(0x28001, 3), (0x28010, 1), (0x29104, 1), (0x29105, 10), (0x29106, 5), (0x2910A, 5)]
      tone := (Vector.replicate 8 {}).set 0 { phase := .on, t := 30 } }
    let q := fun (d : DacState) => { s with dac := d }
    (fld 0x28 0x001 s).testBit 0 = true ∧ s.dac.loutOff.getLsbD 0 = false ∧ s.dac.loutLimit.getLsbD 0 = false
    ∧ fld 0x28 0x010 s = 1 ∧ fld 0x28 0x011 s ≠ 1 ∧ (q { q := (Vector.replicate 2 []).set 0 [1] }).dac.q[(0 : Fin 2)] = [1]
    ∧ (q { code := (Vector.replicate 2 none).set 0 (some 1) }).dac.code[(0 : Fin 2)] ≠ none ∧ s.dac.q[(0 : Fin 2)].length < 32
    ∧ s.tone[(0 : Fin 8)].phase = .on ∧ fld 0x29 0x104 s ≠ 0 ∧ 3 * fld 0x29 0x105 s ≤ s.tone[(0 : Fin 8)].t
    ∧ fld 0x29 0x106 s ≠ 0 ∧ fld 0x29 0x106 { up with cfg := [(0x29106, 0)] } = 0 ∧ fld 0x29 0x107 s = 0 ∧ 3 * fld 0x29 0x10A s ≤ 15 := by decide
theorem witness_HeadphonesAndJack :
    let s := fun (h : HpBlk) (j : JackBlk) => { up with hp := h, jack := j, cfg := [(0x2A006, 1), (0x2B005, 1)] }
    (s { state := .on } {}).hp.state = .on ∧ fld 0x2A 0x004 up = 0 ∧ fld 0x2A 0x006 (s {} {}) ≠ 0
    ∧ fld 0x2A 0x004 { up with cfg := [(0x2A004, 1)] } = 1
    ∧ fld 0x2B 0x003 up * 1000 ≤ (s {} { present := 10000 }).jack.present * 40 ∧ fld 0x18 0x023 up ≤ 1
    ∧ glintHpHeld (s { state := .starting } {}) = false
    ∧ 1000 ≤ ((s {} { absent := 26 }).jack.absent - 1) * 40
    ∧ 100 ≤ 1800 + 100 * fld 0x18 0x022 up - 100
    ∧ (let t := s {} { state := .present, typ := .headset, btnRun := 2, btnCand := 1 }
       fld 0x2B 0x005 t = 1 ∧ t.jack.typ = .headset ∧ t.jack.btnCand ≠ t.jack.btn) := by decide
theorem witness_SpeakerChannels :
    let s := fun (c : SpkCh) (b : BoostState) => { up with
      spk := { ch := (Vector.replicate 2 {}).set 0 c }, boost := b, cfg := [(0x30010, 1), (0x30016, 1)] }
    fld 0x30 0x010 (s {} {}) = 1 ∧ fld 0x30 0x016 (s {} {}) = 1 ∧ fld 0x30 0x010 up ≠ 1
    ∧ (s { state := .waitBoost } { pgood := true }).boost.pgood = true
    ∧ (s { state := .starting, window := true } { ovp := true }).boost.ovp = true
    ∧ (s { state := .running, retries := 8 } {}).spk.ch[(0 : Fin 2)].retries = 8
    ∧ 16 ≤ (s { state := .running, consec := 15 } {}).spk.ch[(0 : Fin 2)].consec + 1
    ∧ 64 ≤ (0 :: ((List.replicate 63 5).map (· + 2)).filter (· < 768)).length
    ∧ (1000 : BitVec 16).toNat < 0x10000 ∧ 16 * fld 0x30 0x01A up ≤ 16 * fld 0x30 0x01C up
    ∧ ({ up with spk := { otp := true, temp := 400 } }).spk.temp < 460 := by decide
theorem witness_GlintChannels :
    let s := fun (g : GlintCh) => { up with glint := (Vector.replicate 2 {}).set 0 g, cfg := [(0x3201E, 0)] }
    (s { state := .running, ducking := true, held := true, below := 8000 }).glint[(0 : Fin 2)].state = .running
    ∧ fld 0x32 0x01E (s {}) = 0 ∧ -60 + (fld 0x32 0x01C (s {}) : Int) ≤ (0 : Byte).toInt
    ∧ ¬ (-60 + (fld 0x32 0x01C (s {}) : Int) ≤ (-128 : Int)) ∧ 8 * fld 0x32 0x024 (s {}) ≤ 8000
    ∧ (s { state := .running, clipWait := 3 }).glint[(0 : Fin 2)].clipWait ≠ 0
    ∧ (s { state := .starting }).glint[(0 : Fin 2)].state = .starting := by decide
theorem witness_HaloAndPins :
    let s := { up with halo := { run := true, rebasing := true, offset := 5, left := 3, pages := [(0, 0xFF)] }
                       cfg := [(0x38008, 1), (0x38020, 5), (0x39001, 2), (0x39030, 3)] }
    live s = true ∧ ticking s = true ∧ s.halo.run = true ∧ 0 < s.halo.offset ∧ s.halo.left < 12 ∧ fld 0x38 0x008 s = 1
    ∧ fld 0x38 0x020 s ≠ 0 ∧ 0 < haloSlots s ∧ 16 ≤ haloShown 0 s ∧ s.sup.vsupUp = true ∧ s.sup.waking = false
    ∧ fld 0x39 0x000 s ≤ 1 ∧ fld 0x39 0x030 s = 3 ∧ fld 0x39 0x001 s = 2 ∧ s.gpio.btn.getLsbD 1 ≠ true
    ∧ s.sup.modeCur ≠ .shutdown ∧ ({ s with sup := { modeCur := .standby } }).sup.modeCur ≠ .run := by decide

/-! ### The manual's own worked figures -/

/-- Chapter 17's CMD_DATA example: from node 6 to node 12, sequence number 3, the first word of its block. -/
theorem test_cmd_data_word :
    ctlWord { typ := 6, dst := 12, src := 6, seq := 3, arg := 0, data := 0xB1005C03 } = 0x60C0C300B1005C03
    ∧ ctlOf 0x60C0C300B1005C03 = { typ := 6, dst := 12, src := 6, seq := 3, data := 0xB1005C03 } := by decide
/-- Table 10.14: one BQ step of section 1, by the steward, on banks of the same layout. -/
theorem test_bq_example : (match exec (.bq .steward 2 2 0 1 [] []) { up with
      stw := { regs := { v := (Vector.replicate 32 0).set 2 0x40000000
                         p := ((Vector.replicate 8 {}).set 0 { addr := 0x804000, start := 0x804000, len := 80 }).set 1
                           { addr := 0x804050, start := 0x804050, len := 64 } } }
      mem := { cells := cellsAt 0x804000 [0, 0, 0, 0x10, 0, 0, 0, 0x20, 0, 0, 0, 0x10, 0, 0, 0, 0xC0, 0, 0, 0, 0x18]
                 ++ cellsAt 0x804050 [0, 0, 0, 0x20, 0, 0, 0, 0, 0, 0, 0, 0x40, 0, 0, 0, 0xE0] } } with
    | .next t => (t.stw.regs.vr 2, wordAt 0x804050 t, wordAt 0x804054 t, wordAt 0x804058 t, wordAt 0x80405C t,
        t.stw.regs.p[0].addr, t.stw.regs.p[1].addr)
    | _ => (0, 0, 0, 0, 0, 0, 0))
    = (0x6C000000, 0x40000000, 0x20000000, 0x6C000000, 0x40000000, 0x804014, 0x804060) := by decide +kernel

/-! ### Clauses at the edges of their ranges -/

theorem witness_LaneFaultIsolation_meets :
    let s := run0 {}
    (memUnit 0 = some 0 ∧ addrOn 0 s = true) ∧ ¬ (memUnit 0x40000 = some 0)
    ∧ ((ctxAt 0 s).ran = true ∧ vget s.lane.usedNow 0 0 = 0) ∧ (ctxAt 1 s).ran = false ∧ live s = true
    ∧ s.lane.isolated.getLsbD 0 = false ∧ laneServed 0 s = true ∧ s.lane.fails = []
    ∧ ({ s with lane := { s.lane with fails := [{ lane := 3, spare := true }] } }).lane.fails.find? (fun f : LaneFail => f.spare)
        = some { lane := 3, spare := true } := by decide
theorem witness_RamScrubbing_readers :
    portOccupied 0x1800000 4 up = false ∧ memUnit 0x1800000 = some 19 ∧ memUnit 0x1000000 = some 18
    ∧ (0x800000 = 0x800000 + 4 * up.stw.regs.pc ∧ stwReady up = true ∧ memUnit 0x800000 = some 17 ∧ addrOn 0x800000 up = true)
    ∧ fld 0x09 0x002 { up with cfg := [(0x9002, 0)] } ≠ 1 ∧ up.memWf = true := by decide
theorem witness_ResetSources_more :
    let s := { up with dbg.halted := true, cmd.jobs := [{ src := .host, ops := [(0, .calrun 2 false 0)] }] }
    fld 0x03 0x001 { s with cfg := [(0x3001, 1)] } ≠ 0 ∧ running s = true ∧ s.dbg.halted = true ∧ performing s ≠ []
    ∧ performing { up with dbg.halted := true } = []
    ∧ ({ up with lcy := { quiet := some .toReturn } }).lcy.quiet = some .toReturn := by decide
theorem witness_RegulatorsAndKeepCharge_more :
    let s := fun (m : PowerMode) => { up with sup.modeCur := m }
    (s .shutdown).sup.modeCur = .shutdown ∧ (s .standby).sup.modeCur ≠ .shutdown
    ∧ ¬ ((s .standby).sup.modeCur = .run ∨ (s .standby).sup.modeCur = .listen) ∧ (s .listen).sup.modeCur = .listen
    ∧ up.sup.usbPump = false ∧ live (s .shutdown) = true := by decide
theorem witness_BoostEvents_more :
    let s := fun (p : BoostPhase) (v : Bool) => { up with boost := { phase := p, ovp := v } }
    (s .idle true).boost.ovp = true ∧ (s .idle true).boost.phase ≠ .ovpStop ∧ (s .ovpStop true).sup.modeCur = .run
    ∧ (s .idle false).boost.ovp = false ∧ (s .ovpStop true).boost.reached = false := by decide
theorem witness_ReferenceAndPll_more :
    let s := fun (c : BitVec 2) (u : UsbState) (l : Bool) => { up with
      rst := { up.rst with ckmode := c }, usb := { state := u }, ring := { lock := l }, clk := { refState := .holdover } }
    ((s 2 .dfu false).rst.ckmode.toNat = 2 ∧ (s 2 .dfu false).usb.state ∈ [UsbState.default, .addressed, .configured, .dfu])
    ∧ ((s 3 .detached true).rst.ckmode.toNat = 3 ∧ (s 3 .detached true).ring.lock = true)
    ∧ (s 2 .dfu false).clk.refState = .holdover ∧ live (s 2 .dfu false) = true ∧ up.sup.modeCur = .run
    ∧ ({ up with sup.modeCur := .listen }).sup.modeCur ≠ .run ∧ 345 ≤ 405 ∧ 405 ≤ 405 ∧ 344 < 345 ∧ 405 < 406 := by decide

/-- What the boot ROM reads from an EEPROM whose third header attempt is answered. -/
def eeprom0 : EepromRead := { failed := 2, clocks := 9, pages := [(0x50, signedImage)] }

theorem witness_BootPaths_eeprom :
    eepromAnswers eeprom0 = true
    ∧ checkImage (eepromImg eeprom0) (eepromAnswers eeprom0) none .develop (eepromAttempts eeprom0 (rom .check 1)) = none
    ∧ eepromAnswers { eeprom0 with failed := 3 } = false ∧ (rom .check 1).rst.stage = .check ∧ live (rom .check 1) = true
    ∧ ¬ ((rom .waitHost 2).rst.stage = .read ∨ (rom .waitHost 2).rst.stage = .check) := by decide +kernel
theorem witness_ContextsAndRoutes_off :
    let s := { starts with mem := { starts.mem with power := [(68, .off)] } }
    addrOn 0x800000 s = false ∧ noteWord (.cstart 7 0x800000) (takenIn .host 1 s) ≠ takenIn .host 1 s := by decide +kernel
theorem witness_BlockResets_wrapped :
    let s := { up with twh := { aptWrite := some (0x40006014, 1, 0xF) } }
    wrapped 0x02 = false ∧ wrapped 0x06 = true ∧ wrapped 0x39 = true ∧ isReg 0x40006014 = true ∧ regBlock 0x40006014 = 6
    ∧ s.twh.aptWrite = some (0x40006014, 1, 0xF) ∧ regBlock 0x40006014 ≠ 0x39 ∧ up.twh.aptWrite = none := by decide
theorem witness_LifeCycleRequests_test :
    let s := { up with rst := { phase := .running, stage := .fabWait }, lcy := { code := .fab, shadow := .fab }, stw := { test := true } }
    live s = true ∧ s.lcy.shadow = .fab ∧ s.stw.test = true ∧ s.lcy.quiet = none ∧ up.stw.test = false := by decide
theorem witness_BlocksTakenIn_words :
    (∀ p ∈ blockOps 16 [0xF2300703] 0, noteWord p.2 up = up) ∧ blockOps 16 [0xF2300703] 0 ≠ [] := by decide +kernel
theorem witness_PerformPhases_halted :
    let s := performing1 (.calrun 2 false 0) []
    s.stw.faulted = false ∧ ({ s with stw := { faulted := true } }).stw.faulted = true
    ∧ ({ s with stw := { faulted := true } }).cmd.jobs = [{ src := .host, tag := 3, ops := [(2, .calrun 2 false 0)] }] := by decide
theorem witness_TwoWireController_counts :
    let s := fun (w r : Nat) => { up with twc := { phase := .transfer }, cfg := [(0x6004, w), (0x6005, r), (0x6006, 0x800000)] }
    (s 4 0).twc.phase = .transfer ∧ fld 0x06 0x004 (s 4 0) = 4 ∧ (0 < 1 ∧ 1 ≤ 4) ∧ (4 < 5)
    ∧ (∀ x, x < 8 → addrOn (0x800000 + x) (s 4 4) = true ∧ copying (0x800000 + x) (s 4 4) = false
        ∧ ramOpen (0x800000 + x) (s 4 4) = false) := by decide
theorem witness_HostTarget_suspended :
    let s := { up with usb := { state := .suspended } }
    s.usb.state = .suspended ∧ up.usb.state ≠ .suspended ∧ up.usb.state ≠ .l1 ∧ modePending up = .run
    ∧ ({ up with sup.modeCur := .shutdown }).sup.modeCur = .shutdown
    ∧ (let z := { up with sup.modeCur := .listen, cfg := [(0x2002, 8)] }; (fld 0x02 0x002 z).testBit 3 = true) := by decide
theorem witness_ApertureWrites_owner :
    let q := port0 { state := .running } {} [(0x10001, 1)]
    up.rst.resets = [] ∧ portOccupied 0x1800000 4 q = true ∧ portOccupied 0x187FFFC 4 q = false ∧ memUnit 0x187FFFC = some 19
    ∧ brineHolds 0x1000000 up = false := by decide
theorem witness_DebugFrames_more :
    let r := { up with rst := { up.rst with resets := [(0x06, 0xFFFF, false)] } }
    (up.sup.modeCur ≠ .shutdown ∧ up.rst.phase = .running) ∧ ({ up with sup.modeCur := .shutdown }).sup.modeCur = .shutdown
    ∧ (0x04 : Word).toNat ∉ [0x01, 0x02, 0x03, 0x10, 0x20, 0x21, 0x22, 0x30]
    ∧ (∀ k : Fin 32, k.val = 0 ∨ k.val = 1 ∨ k.val = 2 ∨ (3 ≤ k.val ∧ k.val ≤ 8) ∨ (9 ≤ k.val ∧ k.val < 12)
        ∨ (12 ≤ k.val ∧ k.val < 16) ∨ 16 ≤ k.val)
    ∧ r.rst.resets ≠ [] ∧ portOccupied 0x1800000 4 up = false := by decide
theorem witness_DebugFrames_inReset :
    ∃ w : Word, w.getLsbD 0 = true ∧ inReset 0x40006014 { up with rst := { up.rst with resets := [(0x06, 0xFFFF, false)] } } = true :=
  ⟨1, by decide, by decide⟩
theorem witness_DebugCommands_test :
    let s := { up with rst := { phase := .running, stage := .fabWait }, lcy := { code := .fab, shadow := .fab } }
    live s = true ∧ s.rst.stage = .fabWait ∧ s.stw.test = false ∧ s.lcy.shadow = .fab ∧ s.dbg.halted = false
    ∧ ({ up with lcy := { shadow := .sealed } }).lcy.tokenHash = none := by decide
theorem witness_QueuesOfAPort_ends :
    let s := port0 { finishing := true } {} []
    portRuns 0 s = false ∧ (spAt 0 s).finishing = true ∧ live s = true
    ∧ (let u := { up with usb := { state := .configured, altOut := true }, sup := { vsupUp := true, vbus := true } }
       portRuns 4 u = true ∧ u.usb.outRing = [] ∧ (portQ 4 u).inQ.length < portDepth 4 / portCh 4 false u) := by decide
theorem witness_SlavePorts_seeking :
    let s := port0 { state := .seeking } {} [(0x10003, 0)]
    (spAt 0 s).state = .seeking ∧ (1 : BitVec 11) ≠ 0 ∧ fld 0x10 0x003 s = 0 := by decide
theorem witness_UsbAttachAndReset_ready :
    let s := { usb0 {} with cfg := [(0x14001, 1)] }
    live s = true ∧ s.sup.usbPump = true ∧ s.sup.vusbOk = true ∧ s.sup.modeCur = .run
    ∧ (usb0 { state := .dfu, dfuMode := .bootRom, dfu := .error }).usb.dfu ≠ .dfuIdle := by decide
theorem witness_UsbSuspendAndWake_l1 :
    let s := usb0 { state := .l1, before := .configured, l1Wake := true, software := true }
    let c := { usb0 { state := .configured } with rst := { up.rst with ckmode := 2 }, clk := { refState := .locked } }
    s.usb.state = .l1 ∧ s.usb.l1Wake = true ∧ s.usb.software = true ∧ c.rst.ckmode = 2 ∧ c.clk.refState = .locked
    ∧ usbAnswers c = true ∧ c.usb.state ≠ .dfu ∧ c.usb.testMode = none := by decide
theorem witness_UsbRequests_reports :
    let s := usb0 { state := .configured, report2 := true, formed := some 0x81 }
    s.usb.formed = some 0x81 ∧ s.usb.report2 = true ∧ (usb0 { state := .configured, report1 := true }).usb.report1 = true
    ∧ (usb0 { state := .configured, report2 := true }).usb.formed = none
    ∧ usbAnswers (usb0 { state := .dfu, dfuMode := .runTime }) = true
    ∧ (interfaces s.usb.desc)[0]? ≠ none := by decide
theorem witness_DeviceFirmwareUpgrade_claims :
    let s := { usb0 { state := .configured, desc := { dfu := true } } with cmd := { claims := [(.usb, 0x18, 0)] } }
    (∃ c ∈ s.cmd.claims, c.1 = .usb ∧ c ≠ (.usb, 0x09, 22))
    ∧ ¬ (∃ c ∈ s.cmd.claims, c.1 ≠ .usb ∧ c.2.1 = 0x09 ∧ (c.2.2 = 22 ∨ c.2.2 = 0xFFFF)) := by decide
theorem witness_RingMasterFrames_relay :
    let r : RingNode := { state := .trained, role := true, frameNo := 9, returned := [(8, 0, [])] }
    r.returned.find? (fun p : BitVec 16 × BitVec 384 × SMap Word => p.1 == r.frameNo + 1 - 2) = some (8, 0, []) ∧ (∀ p ∈ r.returned, smWf (fun _ => (0 : Word)) p.2.2 = true)
    ∧ ({ r with returned := [] }).returned.find? (fun p : BitVec 16 × BitVec 384 × SMap Word => p.1 == r.frameNo + 1 - 2) = none
    ∧ (5 ≤ ({ r with badRun := 5 }).badRun) ∧ 3932 < 3933 ∧ 3932 ≤ 3932 := by decide
theorem witness_RingTraining_clock :
    let s := { nodeUp with rst := { up.rst with ckmode := 3 }, ring := { nodeUp.ring with lock := true }, clk := { refState := .locked } }
    s.rst.ckmode = 3 ∧ s.ring.lock = true ∧ s.clk.refState = .locked ∧ s.ring.leaving = false
    ∧ (let w := { up with flow := [.field 0x2001 1], cfg := [(0x2002, 0x20)] }
       running w = true ∧ wakes (modePending w) .ring w = true)
    ∧ (let z := { up with usb := { state := .suspended } }; z.usb.state = .suspended ∧ live z = true ∧ z.sup.modeCur = .run) := by decide
theorem witness_MicrophoneChannels_stuck :
    let s := { up with mic := { pdmClk := 1 }, cfg := [(0x18001, 0x10)] }
    s.mic.pdmClk.getLsbD (0 / 8) = true ∧ chEn (4 + 0) s = true ∧ s.mic.stuckNow.getLsbD 0 = false ∧ chEn (4 + 1) s = false
    ∧ wakeMic (4 + 1) s = false ∧ calRunning 5 none s = false := by decide
theorem witness_VaultCloses_chans :
    let s := { listening with vault := { open_ := true, exporting := some 0x800000, valid := 32000, lastIndex := 31999, chans := 2 } }
    s.vault.chans ≤ 2 ∧ s.vault.valid ≤ 32000 ∧ s.vault.lastIndex < 32000 ∧ 0x800000 + 4 * (2 * 32000) ≤ 0x1C00000
    ∧ s.memWf = true ∧ ({ s with vault := { s.vault with resealDue := true } }).vault.resealDue = true := by decide
theorem witness_Converters_parallel :
    let s := { up with cfg := [(0x30001, 1)], spk := { ch := (Vector.replicate 2 {}).set 0 { state := .running } } }
    spkParallel s = true ∧ (spkAt 0 s).state ≠ .off ∧ (spkAt 0 s).state ≠ .latched ∧ (spkAt 1 s).state = .off
    ∧ (let z := { up with cfg := [(0x22001, 1), (0x22002, 0), (0x22003, 1)], sar := (Vector.replicate 2 {}).set 0 { late := true } }
       (z.sar[(0 : Fin 2)].late = true ∧ z.sar[(0 : Fin 2)].scanning = false) ∧ fld 0x22 0x001 z = 1
        ∧ calRunning 1 (some 0) z = false) := by decide
theorem witness_LineOutputsAndTones_ramp :
    let s := { up with
      dac := { loutRamp := (Vector.replicate 2 0).set 0 2 }
      tone := (Vector.replicate 8 {}).set 0 { phase := .rampOut, t := 45, stopT := 30 }
      cfg := [(0x2910A, 5)] }
    0 < s.dac.loutRamp[(0 : Fin 2)] ∧ (fld 0x28 0x001 s).testBit 0 = false
    ∧ s.tone[(0 : Fin 8)].stopT + 3 * fld 0x29 0x10A s ≤ s.tone[(0 : Fin 8)].t ∧ s.tone[(0 : Fin 8)].phase = .rampOut := by decide
theorem witness_SpeakerChannels_quiet :
    let s := { up with lcy := { up.lcy with quiet := some .soft }
                       spk := { ch := (Vector.replicate 2 {}).set 0 { state := .running } }, cfg := [(0x30010, 1)] }
    ¬ (fld 0x30 0x010 s = 1 ∧ s.lcy.quiet = none) ∧ (spkAt 0 s).state = .running
    ∧ (spkAt 0 { s with spk := { ch := (Vector.replicate 2 {}).set 0 { state := .latched } } }).state = .latched := by decide

/-! ### Words, checks and arithmetic against the manual -/

/-- Tables 10.9, 10.10, 11.8, 10.14: words written out from their encodings. -/
theorem test_code_words :
    codeInstr .steward 0x50050000 0 0 [] [] = some (.psets .steward 0 1 0)
    ∧ codeInstr .steward 0x600C001D 0 0 [] [] = some (.loop .steward none 48 0x1D)
    ∧ codeInstr .steward 0x40480000 0 0 [] [] = some (.ld .steward 2 2 0 0 [])
    ∧ codeInstr .steward 0x30420400 0 0 [] [] = some (.bq .steward 2 2 0 1 [] [])
    ∧ codeInstr .steward 0x44480004 0 0 [] [] = some (.st .steward 2 2 0 4 [] [])
    ∧ codeInstr .steward 0x04000000 0 0 [] [] = some (.nop .steward)
    ∧ codeInstr .steward 0xF2300703 0 0 [] [] = some (.cfg .steward 0x23 0x007 3)
    ∧ codeInstr .steward 0x00000000 0 0 [] [] = some .illegalStewardWord
    ∧ codeInstr (.ctx 0) 0xF2300703 0 0 [] [] = none := by decide +kernel
/-- The hash of "abc" that FIPS 180-4 gives. -/
theorem test_sha256_abc : sha256 [0x61, 0x62, 0x63]
    = 0xba7816bf8f01cfea414140de5dae2223b00361a396177a9cb410ff61f20015ad := by decide +kernel
/-- R409: the codes that chapter 19 gives for voltages against the 1.2 V reference. -/
theorem test_sar_codes : sarCode 825000 1200000 = 2816 ∧ sarCode 600000 1200000 = 2048 ∧ sarCode 648000 1200000 = 2212 := by decide
/-- Chapter 22's example: 100 mV at GLINT_IN0, a filter that passes its input on, GAIN 12. -/
theorem test_glint_example :
    glintSample 0 0 [819] { up with
      glint := (Vector.replicate 2 {}).set 0 { h := (Vector.replicate 64 0).set 0 0x4000 }, cfg := [(0x32012, 12)] }
    = (2150, false) := by decide +kernel
/-- Chapter 23's example: the steady state, and the lengthened halo frame. -/
theorem test_halo_on_time :
    let s := fun (span : Nat) => { up with
      halo := { run := true, span := span, pages := [(27, 128)], taken := true }, cfg := [(0x38002, 3), (0x38001, 255)] }
    (haloSlots (s 12) = 4 ∧ haloOnNs 27 (s 12) = 123482) ∧ haloOnNs 27 (s 15) = 154854 := by decide +kernel
/-- Tables 02.3 and 02.4: a ball in its reset phase and in the phase after it. -/
theorem test_ball_phases :
    let s := fun (r : RstState) => { up with rst := r, pin := { loaded := true, valid := true, shadow := [(2, 0x42)] } }
    phaseBall {} 2 (s {}) = { pull := .down 50000 } ∧ phaseBall {} 2 (s up.rst) = { drive := .high } := by decide

end Sys2Proof.Tests
end

section
/-! SUPPORT. Chapter 10 of the manual: the Slaso instructions that only change registers, and the hardware loops (O7 to
O12, O15). First how such an instruction completes, then what the model's words, saturations and roundings are as integers,
then the theorem for each statement. -/

namespace Sys2Proof.Machine

/-! ### Completion of an instruction that only changes registers -/

/-- An instruction that issues and completes leaves the registers it computes, its program counter moved on. -/
theorem exec_of_done {i : Instr} {who : Agent} {cyc : Nat} {s t : State} {r : RegSet} {g : Go}
    {f : RegSet → State → Act} (h : Issues who cyc s) (hx : exec i s = .next (issue who true cyc f s))
    (hf : f (agentRegs who s) (charged who cyc s) = .done r g t) : exec i s = .next (putRegs who (r.advance g) t) :=
  hx.trans (congrArg Host.Outcome.next (issue_done h hf))

/-- An instruction of either profile that issues with valid operands and falls through gives the registers it computes. -/
theorem gives_of_issue {i : Instr} {who : Agent} {ok : Bool} {cyc : Nat} {s : State} {r : RegSet}
    {f : RegSet → State → Act} (h : Issues who cyc s) (hx : exec i s = .next (issue who ok cyc f s)) (hok : ok = true)
    (hf : f (agentRegs who s) (charged who cyc s) = .done r .fall (charged who cyc s)) : Gives i who cyc s r := by
  subst hok
  exact exec_of_done h hx hf

/-- An instruction that is a `compute` gives what its function makes of the agent's registers. -/
theorem gives_of_compute {i : Instr} {who : Agent} {s : State} {r : RegSet} {f : RegSet → RegSet} (h : Issues who 1 s)
    (hx : exec i s = .next (compute who f s)) (hf : f (agentRegs who s) = r) : Gives i who 1 s r :=
  gives_of_issue h hx rfl (by rw [hf])

/-! ### Saturation and rounding as integers (R189) -/

theorem setVS_satQ (k : Fin 32) (x : Int) (r : RegSet) : r.setVS k (satQ x) = satTo k x r := by
  have hq : satQ x = (BitVec.ofInt 32 (clampQ x), decide (clampQ x ≠ x)) := by
    unfold satQ clampQ
    split
    · next hlo =>
      rw [show max (-(2 ^ 31)) (min (2 ^ 31 - 1) x) = (-(2 ^ 31) : Int) by omega, decide_eq_true (by omega)]
      rfl
    · split
      · next hhi =>
        rw [show max (-(2 ^ 31)) (min (2 ^ 31 - 1) x) = (2 ^ 31 - 1 : Int) by omega, decide_eq_true (by omega)]
        rfl
      · rw [show max (-(2 ^ 31)) (min (2 ^ 31 - 1) x) = x by omega, decide_eq_false (fun hne => hne rfl)]
  rw [hq]
  rfl

theorem setA_satA (k : Fin 4) (x : Int) (r : RegSet) : r.setA k (satA x) = satToA k x r := by
  have ha : satA x = (BitVec.ofInt 72 (clampA x), decide (clampA x ≠ x)) := by
    unfold satA clampA
    split
    · next hlo =>
      rw [show max (-(2 ^ 71)) (min (2 ^ 71 - 1) x) = (-(2 ^ 71) : Int) by omega, decide_eq_true (by omega)]
    · split
      · next hhi =>
        rw [show max (-(2 ^ 71)) (min (2 ^ 71 - 1) x) = (2 ^ 71 - 1 : Int) by omega, decide_eq_true (by omega)]
      · rw [show max (-(2 ^ 71)) (min (2 ^ 71 - 1) x) = x by omega, decide_eq_false (fun hne => hne rfl)]
  rw [ha]
  rfl

/-- Adding half a unit and truncating toward −∞ is rounding to the nearest, halves upward. -/
theorem rndBy_succ (k : Nat) (x : Int) : rndBy (k + 1) x = roundShift (k + 1) x := by
  have hnum : 2 * x + 2 ^ (k + 1) = 2 * (x + 2 ^ k) := by rw [Int.pow_succ, Int.mul_add, Int.mul_comm 2 (2 ^ k)]
  have hden : (2 : Int) ^ (k + 1 + 1) = 2 * 2 ^ (k + 1) := by rw [Int.pow_succ, Int.mul_comm]
  simp only [rndBy, roundShift, Nat.succ_ne_zero, if_false, Nat.add_sub_cancel]
  rw [hnum, hden, Int.mul_ediv_mul_of_pos _ _ (by decide)]

theorem setVS_rndQ (k : Fin 32) (x : Int) (r : RegSet) : r.setVS k (rndQ x) = satTo k (roundShift 31 x) r := by
  rw [rndQ, setVS_satQ, rndBy_succ 30]

/-! ### Words as integers -/

theorem add_signExtend (x : Word) (imm : BitVec 16) : x + imm.signExtend 32 = BitVec.ofInt 32 (x.toInt + imm.toInt) := by
  rw [BitVec.ofInt_add, BitVec.ofInt_toInt]
  rfl

theorem append_eq_ofNat (a b : BitVec 16) : (a ++ b : BitVec 32) = BitVec.ofNat 32 (a.toNat * 2 ^ 16 + b.toNat) := by
  apply BitVec.eq_of_toNat_eq
  rw [BitVec.toNat_append, ← Nat.shiftLeft_add_eq_or_of_lt b.isLt, Nat.shiftLeft_eq, BitVec.toNat_ofNat]
  omega

/-- Clearing the low bits of a word is shifting them out and back. -/
theorem and_highMask {w : Nat} (x : BitVec w) (k : Nat) : x &&& (BitVec.allOnes w <<< k) = (x >>> k) <<< k := by
  ext i hi
  by_cases hk : i < k
  · simp [hk]
  · simpa [hk, Nat.add_sub_cancel' (Nat.le_of_not_lt hk)] using (BitVec.getLsbD_eq_getElem hi).symm

/-- Clearing the low bits of a word rounds it down to a multiple. -/
theorem and_highMask_eq_ofNat (x : Word) (k : Nat) :
    x &&& (BitVec.allOnes 32 <<< k) = BitVec.ofNat 32 (x.toNat / 2 ^ k * 2 ^ k) := by
  rw [and_highMask]
  apply BitVec.eq_of_toNat_eq
  simp [Nat.shiftRight_eq_div_pow, Nat.shiftLeft_eq]

theorem ofNat_div_two_pow (x : Word) (k : Nat) : BitVec.ofNat 32 (x.toNat / 2 ^ k) = x >>> k := by
  rw [← Nat.shiftRight_eq_div_pow, ← BitVec.toNat_ushiftRight, BitVec.ofNat_toNat, BitVec.setWidth_eq]

/-- PACK: the upper halves of two words beside each other. -/
theorem upperHalves_eq_ofNat (x y : Word) :
    (x &&& 0xFFFF0000#32) ||| y >>> 16 = BitVec.ofNat 32 (x.toNat / 2 ^ 16 * 2 ^ 16 + y.toNat / 2 ^ 16) := by
  have hlt : y.toNat / 2 ^ 16 < 2 ^ 16 := by have := y.isLt; omega
  rw [← Nat.shiftLeft_eq, Nat.shiftLeft_add_eq_or_of_lt hlt, BitVec.ofNat_or, ofNat_div_two_pow, Nat.shiftLeft_eq]
  exact congrArg (· ||| _) (and_highMask_eq_ofNat x 16)

/-- The word of an integer aligned down to 4. -/
theorem ofInt_and_mask4 (z : Int) : BitVec.ofInt 32 z &&& 0xFFFFFFFC#32 = BitVec.ofInt 32 (z / 4 * 4) := by
  have hmask : BitVec.ofInt 32 z &&& 0xFFFFFFFC#32 = _ := and_highMask_eq_ofNat (BitVec.ofInt 32 z) 2
  rw [hmask]
  apply BitVec.eq_of_toNat_eq
  simp only [BitVec.toNat_ofNat, BitVec.toNat_ofInt]
  omega

theorem bne_eq_decide_ne (a b : Word) : (a != b) = decide (a ≠ b) := decide_not.symm

/-! ### Moves, immediates and predicates (R216, R223) -/

/-- LCGET's value: the count of a counter in use, else 0. -/
theorem lcLeft_eq (r : RegSet) (k : Fin 2) :
    r.lcLeft k = if k.val < r.depth then BitVec.ofNat 32 (if k = 0 then r.lc0 else r.lc1).n.toNat else 0 := by
  simp only [RegSet.lcLeft, Fin.val_eq_zero_iff, apply_ite LoopCtr.n, BitVec.ofNat_toNat]

theorem movesAndImmediates : Statements.MovesAndImmediates := by
  intro who vd vs vt q p k imm s h r x y d c
  refine ⟨gives_of_compute h rfl rfl, gives_of_compute h rfl rfl, gives_of_compute h rfl rfl,
    gives_of_compute h rfl rfl, gives_of_compute h rfl ?lcget, gives_of_compute h rfl ?pack,
    gives_of_compute h rfl ?addi, gives_of_compute h rfl rfl, gives_of_compute h rfl ?movhi⟩
  case lcget => exact congrArg (put vd · r) (lcLeft_eq r k)
  case pack => exact congrArg (put vd · r) (upperHalves_eq_ofNat x y)
  case addi => exact congrArg (put vd · r) (add_signExtend x imm)
  case movhi =>
    have hlow : (d.setWidth 16).toNat = d.toNat % 2 ^ 16 := BitVec.toNat_setWidth 16 d
    have hword := append_eq_ofNat imm (d.setWidth 16)
    rw [hlow] at hword
    exact congrArg (put vd · r) hword

theorem predicateLogic : Statements.PredicateLogic := by
  intro who qd qs qt v imm s h r a b
  refine ⟨gives_of_compute h rfl rfl, gives_of_compute h rfl rfl, gives_of_compute h rfl rfl,
    gives_of_compute h rfl rfl, gives_of_compute h rfl rfl, gives_of_compute h rfl rfl,
    gives_of_compute h rfl ?qtov, gives_of_compute h rfl ?vtoq⟩
  case qtov => exact congrArg (put v · r) (by show BitVec.ofNat 32 (b2n a) = _; cases a <;> rfl)
  case vtoq => exact congrArg (putQ qd · r) (bne_eq_decide_ne (r.vr v) 0)

/-- Settles O7, from Tables 10.5 and 10.8, row by row. -/
theorem movesAndPredicates : Obligations.MovesAndPredicates := ⟨movesAndImmediates, predicateLogic⟩

/-! ### MAC and ACC (R217, R219) -/

/-- Settles O8, by the saturation of an accumulator. With SINGLE the second product is the integer 0. -/
theorem multiplyAccumulate : Obligations.MultiplyAccumulate := by
  intro who ad vs vt vu vw clr neg1 neg2 s h r p1 p2 base q1
  refine ⟨gives_of_issue h rfl rfl (congrArg (Act.done · .fall _) (setA_satA ad _ r)),
    gives_of_issue h rfl rfl (congrArg (Act.done · .fall _) ?_)⟩
  have hsum : base + q1 + 0 = base + q1 := Int.add_zero _
  exact (setA_satA ad _ r).trans (congrArg (satToA ad · r) hsum)

/-- Settles O9, row by row of Table 10.6. -/
theorem accumulatorMoves : Obligations.AccumulatorMoves := by
  intro who vd vs k j sh s h r acc x
  exact ⟨gives_of_compute h rfl (setVS_rndQ vd acc r), gives_of_compute h rfl (setVS_rndQ vd (acc * 2 ^ sh.val) r),
    gives_of_compute h rfl rfl, gives_of_compute h rfl rfl,
    gives_of_compute h rfl (setA_satA k (acc + x * 2 ^ 31) r), gives_of_compute h rfl rfl⟩

/-! ### The butterfly (R221) -/

theorem setVS_bflyPart (k : Fin 32) (x : Word) (t : Int) (sh : Bool) (r : RegSet) :
    r.setVS k (bflyPart x t sh) = satTo k (roundShift (if sh then 32 else 31) (x.toInt * 2 ^ 31 + t)) r := by
  rw [bflyPart, setVS_satQ]
  cases sh
  · exact congrArg (satTo k · r) (rndBy_succ 30 _)
  · exact congrArg (satTo k · r) (rndBy_succ 31 _)

theorem oddOf_eq {k k1 : Fin 32} (h : k1.val = k.val + 1) : oddOf k = k1 :=
  Fin.ext (by simp only [oddOf]; omega)

/-- Settles O10: the operand rules hold for even, distinct registers, and each part is a rounded, saturated sum. -/
theorem complexButterfly : Obligations.ComplexButterfly := by
  intro who vd vs vt vd1 vs1 vt1 sh s h hvd hvs hvt hne hd1 hs1 ht1 r xr xi tr ti g
  have hok : (even vd && even vs && even vt && vd != vs) = true := by simp [even, hvd, hvs, hvt, hne]
  refine gives_of_issue h rfl hok (congrArg (Act.done · .fall _) ?_)
  simp only [setVS_bflyPart, oddOf_eq hd1, oddOf_eq hs1, oddOf_eq ht1]
  rfl

/-! ### CMP (R222) -/

/-- Table 10.7: the condition that CMP tests, on two's complement words or on binary32 values. -/
def cmpCond (f : Bool) (cc : BitVec 4) (a b : Word) : Option Bool :=
  if f then cmpFp cc.toNat a b else cmpInt cc.toNat a b

theorem cmpResult_eq_combOf {r : RegSet} {qd : Fin 4} {vs vt : Fin 32} {cc : BitVec 4} {f z c : Bool} {comb : BitVec 2}
    (hz : z = true → vt = 0) (hc : cmpCond f cc (r.vr vs) (if z then 0 else r.vr vt) = some c) :
    cmpResult r qd vs vt cc f z comb = combOf comb (r.qr qd) c := by
  have hvalid : (z && vt != 0) = false := by
    cases z with
    | false => rfl
    | true => simp [hz rfl]
  rw [cmpCond] at hc
  simp only [cmpResult, hvalid, hc, Bool.false_eq_true, if_false]

theorem cmp_gives {who : Agent} {qd : Fin 4} {vs vt : Fin 32} {cc : BitVec 4} {f z c : Bool} {comb : BitVec 2} {s : State}
    (h : Issues who 1 s) (hr : cmpResult (agentRegs who s) qd vs vt cc f z comb = some c) :
    Gives (.cmp who qd vs vt cc f z comb) who 1 s (putQ qd c (agentRegs who s)) :=
  gives_of_issue h rfl (by rw [hr]; rfl) (by rw [hr]; rfl)

/-- A condition that has a value writes it, or its conjunction or disjunction with the old predicate. -/
theorem cmp_gives_each_comb {who : Agent} {qd : Fin 4} {vs vt : Fin 32} {cc : BitVec 4} {f z c : Bool} {s : State}
    (h : Issues who 1 s) (hz : z = true → vt = 0)
    (hc : cmpCond f cc ((agentRegs who s).vr vs) (if z then 0 else (agentRegs who s).vr vt) = some c) :
    let r := agentRegs who s
    Gives (.cmp who qd vs vt cc f z 0) who 1 s (putQ qd c r)
      ∧ Gives (.cmp who qd vs vt cc f z 1) who 1 s (putQ qd (r.q.getLsbD qd && c) r)
      ∧ Gives (.cmp who qd vs vt cc f z 2) who 1 s (putQ qd (r.q.getLsbD qd || c) r) :=
  ⟨cmp_gives h (cmpResult_eq_combOf hz hc), cmp_gives h (cmpResult_eq_combOf hz hc),
    cmp_gives h (cmpResult_eq_combOf hz hc)⟩

/-- Settles O11, condition by condition of Table 10.7. -/
theorem compareIntoPredicate : Obligations.CompareIntoPredicate := by
  intro who qd vs vt z s h hz r a b old puts x y
  have cond : ∀ {cc : BitVec 4} {f c : Bool}, cmpCond f cc a b = some c → puts cc f c :=
    fun hc => cmp_gives_each_comb h hz hc
  exact ⟨cond rfl, cond (congrArg some (bne_eq_decide_ne a b)), cond rfl,
    cond rfl, cond rfl, cond rfl, cond rfl, cond rfl, cond rfl, cond rfl, cond rfl, cond rfl, cond rfl, cond rfl,
    cond rfl⟩

/-! ### Pointers (R191, R226) -/

/-- R191, LEN 0: the pointer moves by the step. -/
theorem stepBy_linear {p : Ptr} (h : p.len = 0) (d : Int) :
    p.stepBy d = { p with addr := BitVec.ofInt 32 (p.addr.toInt + d) } := by
  rw [BitVec.ofInt_add, BitVec.ofInt_toInt]
  simp only [Ptr.stepBy, h, if_true]

/-- R191, LEN not 0: the pointer lands at an offset within LEN of START, congruent to where the step leads. -/
theorem stepBy_modulo {p : Ptr} (h : p.len ≠ 0) (d : Int) :
    ∃ o : Nat, o < p.len.toNat ∧ ((p.addr.toNat : Int) - p.start.toNat + d - o) % p.len.toNat = 0
      ∧ p.stepBy d = { p with addr := p.start + BitVec.ofNat 32 o } := by
  have hpos : (0 : Int) < p.len.toNat := by
    have := (BitVec.toNat_ne_iff_ne (n := 16) (x := p.len) (y := 0)).mpr h
    simp only [BitVec.ofNat_eq_ofNat, BitVec.toNat_ofNat, Nat.zero_mod] at this
    omega
  generalize hx : (p.addr.toNat : Int) - p.start.toNat + d = x
  obtain ⟨o, ho⟩ := Int.eq_ofNat_of_zero_le (Int.emod_nonneg x (Int.ne_of_gt hpos))
  have hlt : x % p.len.toNat < p.len.toNat := Int.emod_lt_of_pos x hpos
  refine ⟨o, by omega, ?_, ?_⟩
  · rw [← ho]
    exact Int.emod_eq_zero_of_dvd (Int.dvd_self_sub_emod)
  · simp only [Ptr.stepBy, h, if_false, hx, ho, BitVec.ofInt_natCast]

theorem pointerSetUp : Statements.PointerSetUp := by
  intro who pk vs imm s h r p sum putP
  have hsum : r.vr vs + imm.signExtend 32 = BitVec.ofInt 32 sum := add_signExtend (r.vr vs) imm
  refine ⟨gives_of_compute h rfl ?pseta, gives_of_compute h rfl ?psets, fun hlen => ?psetl, fun hlen => ?linear,
    fun hlen => ?modulo⟩
  case pseta => exact congrArg (fun w => putP { p with addr := w }) hsum
  case psets =>
    exact congrArg (fun w => putP { p with start := w }) ((congrArg (· &&& _) hsum).trans (ofInt_and_mask4 sum))
  case psetl => exact gives_of_issue h rfl (beq_iff_eq.mpr hlen) rfl
  case linear => exact gives_of_compute h rfl (congrArg putP (stepBy_linear hlen imm.toInt))
  case modulo =>
    obtain ⟨o, hlt, hmod, hstep⟩ := stepBy_modulo hlen imm.toInt
    exact ⟨o, hlt, hmod, gives_of_compute h rfl (congrArg putP hstep)⟩

theorem pointerPostModify : Statements.PointerPostModify := by
  intro p d
  by_cases hlen : p.len = 0
  · have hstep := stepBy_linear hlen d
    exact ⟨by rw [hstep], by rw [hstep], fun _ => by rw [hstep], fun hne => absurd hlen hne⟩
  · obtain ⟨o, hlt, hmod, hstep⟩ := stepBy_modulo hlen d
    exact ⟨by rw [hstep], by rw [hstep], fun h0 => absurd h0 hlen, fun _ => ⟨o, hlt, by rw [hstep], hmod⟩⟩

/-- Settles O12, from the linear and the modulo post-modify. -/
theorem pointerArithmetic : Obligations.PointerArithmetic := ⟨pointerSetUp, pointerPostModify⟩

/-! ### Hardware loops (R227, R228) -/

theorem inner_of_depth_one {r : RegSet} (h : r.depth = 1) : r.inner = r.lc0 := by simp [RegSet.inner, h]

theorem inner_of_depth_two {r : RegSet} (h : r.depth = 2) : r.inner = r.lc1 := by simp [RegSet.inner, h]

theorem setInner_of_depth_one {r : RegSet} (h : r.depth = 1) (c : LoopCtr) : r.setInner c = { r with lc0 := c } := by
  simp [RegSet.setInner, h]

theorem setInner_of_depth_two {r : RegSet} (h : r.depth = 2) (c : LoopCtr) : r.setInner c = { r with lc1 := c } := by
  simp [RegSet.setInner, h]

theorem popLoop_of_depth_one {r : RegSet} (h : r.depth = 1) : r.popLoop = { r with lc0 := {}, depth := 0 } := by
  rw [RegSet.popLoop, setInner_of_depth_one h, h]

theorem popLoop_of_depth_two {r : RegSet} (h : r.depth = 2) : r.popLoop = { r with lc1 := {}, depth := 1 } := by
  rw [RegSet.popLoop, setInner_of_depth_two h, h]

/-- Outside every loop, and anywhere but at the innermost loop's END, the next word follows. -/
theorem advance_fall_next {r : RegSet} (h : r.depth = 0 ∨ r.inner.last ≠ r.pc) :
    r.advance .fall = { r with pc := r.pc + 1 } := by
  have hnot : (decide (0 < r.depth) && r.inner.last == r.pc) = false := by
    rcases h with h | h <;> simp [h]
  simp only [RegSet.advance, RegSet.fallThrough, hnot, Bool.false_eq_true, if_false]

/-- At END with iterations left, control returns to the loop's start. -/
theorem advance_fall_back {r : RegSet} (hd : 0 < r.depth) (hl : r.inner.last = r.pc) (hn : 1 < r.inner.n.toNat) :
    r.advance .fall
      = { r.setInner { r.inner with n := BitVec.ofNat 16 (r.inner.n.toNat - 1) } with pc := r.inner.start } := by
  have hdec : r.inner.n - 1 = BitVec.ofNat 16 (r.inner.n.toNat - 1) := by bv_omega
  simp only [RegSet.advance, RegSet.fallThrough, hd, hl, decide_true, beq_self_eq_true, Bool.and_self, if_true, hn, hdec]

/-- At END of the last iteration, the counter is released. -/
theorem advance_fall_out {r : RegSet} (hd : 0 < r.depth) (hl : r.inner.last = r.pc) (hn : r.inner.n.toNat ≤ 1) :
    r.advance .fall = { r.popLoop with pc := r.inner.last + 1 } := by
  simp only [RegSet.advance, RegSet.fallThrough, hd, hl, decide_true, beq_self_eq_true, Bool.and_self, if_true,
    if_neg (Nat.not_lt.mpr hn)]

/-- The iterations that a LOOP names: COUNT, or the low half of a register. -/
def loopCount (reg : Option (Fin 32)) (count : BitVec 10) (r : RegSet) : BitVec 16 :=
  BitVec.ofNat 16 (match reg with | some v => (r.vr v).toNat | none => count.toNat)

theorem exec_loop (who : Agent) (reg : Option (Fin 32)) (count : BitVec 10) (last : BitVec 14) (s : State) :
    exec (.loop who reg count last) s
      = .next (issue who (decide ((agentRegs who s).pc < last.toNat) && (reg.isSome || count != 0)) 1
          (fun r u => loopTo last.toNat (loopCount reg count r) r u) s) := by
  cases reg with
  | none => simp only [loopCount, BitVec.ofNat_toNat]; rfl
  | some v => simp only [loopCount, BitVec.ofNat_toNat]; rfl

theorem exec_loop_of_valid {who : Agent} {reg : Option (Fin 32)} {count : BitVec 10} {last : BitVec 14} {s : State}
    (hpc : (agentRegs who s).pc < last.toNat) (hc : reg = none → count ≠ 0) :
    exec (.loop who reg count last) s
      = .next (issue who true 1 (fun r u => loopTo last.toNat (loopCount reg count r) r u) s) := by
  have hok : (decide ((agentRegs who s).pc < last.toNat) && (reg.isSome || count != 0)) = true := by
    cases reg with
    | none => simpa [hpc] using hc rfl
    | some v => simp [hpc]
  rw [exec_loop, hok]

theorem issue_steward_invalid {cyc : Nat} {s : State} (f : RegSet → State → Act) (h : Issues .steward cyc s) :
    issue .steward false cyc f s = stwHalt 8 (charged .steward cyc s) := by
  simp only [issue, Bool.false_eq_true, if_false]
  rw [issueStw_issues _ h]

theorem loopTo_of_depth_two {last : Nat} {n : BitVec 16} {r : RegSet} {s : State} (h : r.depth = 2) :
    loopTo last n r s = .stop (.fault 5) s := if_pos h

theorem loopTo_of_zero {last : Nat} {n : BitVec 16} {r : RegSet} {s : State} (h : r.depth < 2) (hn : n = 0) :
    loopTo last n r s = .done r (.to (last + 1)) s := by
  rw [loopTo, if_neg (Nat.ne_of_lt h), if_pos hn]

theorem loopTo_of_ne_zero {last : Nat} {n : BitVec 16} {r : RegSet} {s : State} (h : r.depth < 2) (hn : n ≠ 0) :
    loopTo last n r s = .done (r.pushLoop n last) .fall s := by
  rw [loopTo, if_neg (Nat.ne_of_lt h), if_neg hn]

/-- A LOOP that pushes goes on to the loop's first instruction, since END lies beyond it. -/
theorem advance_pushLoop_outer {r : RegSet} {n : BitVec 16} {last : Nat} (h : r.depth = 0) (hpc : r.pc < last) :
    (r.pushLoop n last).advance .fall
      = { r with lc0 := { n := n, start := r.pc + 1, last := last }, depth := 1, pc := r.pc + 1 } := by
  rw [RegSet.pushLoop, if_pos h]
  exact advance_fall_next (.inr (Nat.ne_of_gt hpc))

theorem advance_pushLoop_inner {r : RegSet} {n : BitVec 16} {last : Nat} (h : r.depth = 1) (hpc : r.pc < last) :
    (r.pushLoop n last).advance .fall
      = { r with lc1 := { n := n, start := r.pc + 1, last := last }, depth := 2, pc := r.pc + 1 } := by
  rw [RegSet.pushLoop, if_neg (by omega), h]
  exact advance_fall_next (.inr (Nat.ne_of_gt hpc))

theorem loopEntry : Statements.LoopEntry := by
  intro who reg count last s h r u n c
  refine ⟨fun hpc hc => ?valid, fun hst hbad => ?invalid⟩
  case valid =>
    have hx := exec_loop_of_valid hpc hc
    refine ⟨fun hd => ?full, fun hd hn => ?zero, fun hd hn => ?outer, fun hd hn => ?inner⟩
    case full => exact hx.trans (congrArg Host.Outcome.next (issue_fault h (loopTo_of_depth_two hd)))
    case zero => exact exec_of_done h hx (loopTo_of_zero hd hn)
    case outer =>
      rw [exec_of_done h hx (loopTo_of_ne_zero (show r.depth < 2 by omega) hn), advance_pushLoop_outer hd hpc]
      rfl
    case inner =>
      rw [exec_of_done h hx (loopTo_of_ne_zero (show r.depth < 2 by omega) hn), advance_pushLoop_inner hd hpc]
      rfl
  case invalid =>
    subst hst
    have hok : (decide (r.pc < last.toNat) && (reg.isSome || count != 0)) = false := by
      rcases hbad with hend | ⟨rfl, rfl⟩
      · simp [Nat.not_lt.mpr hend]
      · simp
    rw [exec_loop, hok, issue_steward_invalid _ h]

/-- R228: LBRK inside a loop. -/
theorem exec_lbrk_of_depth_ne_zero {who : Agent} {s : State} (h : Issues who 1 s) (hd : (agentRegs who s).depth ≠ 0) :
    exec (.lbrk who) s = .next (putRegs who
      { (agentRegs who s).popLoop with pc := (agentRegs who s).inner.last + 1 } (charged who 1 s)) :=
  exec_of_done (g := .to ((agentRegs who s).inner.last + 1)) h rfl (if_neg hd)

theorem loopBackAndBreak : Statements.LoopBackAndBreak := by
  refine ⟨fun r => ⟨fun hd => advance_fall_next (.inl hd), fun hd hl => ?before1, fun hd hl => ?before2,
    fun hd hl hn => ?back1, fun hd hl hn => ?back2, fun hd hl hn => ?out1, fun hd hl hn => ?out2⟩,
    fun who s h => ⟨fun hd => gives_of_issue h rfl rfl (if_pos hd), fun hd => ?lbrk1, fun hd => ?lbrk2⟩⟩
  case before1 => exact advance_fall_next (.inr (by rwa [inner_of_depth_one hd]))
  case before2 => exact advance_fall_next (.inr (by rwa [inner_of_depth_two hd]))
  case back1 =>
    rw [← inner_of_depth_one hd] at hl hn ⊢
    rw [advance_fall_back (by omega) hl hn, setInner_of_depth_one hd]
  case back2 =>
    rw [← inner_of_depth_two hd] at hl hn ⊢
    rw [advance_fall_back (by omega) hl hn, setInner_of_depth_two hd]
  case out1 =>
    rw [← inner_of_depth_one hd] at hl hn ⊢
    rw [advance_fall_out (by omega) hl hn, popLoop_of_depth_one hd]
  case out2 =>
    rw [← inner_of_depth_two hd] at hl hn ⊢
    rw [advance_fall_out (by omega) hl hn, popLoop_of_depth_two hd]
  case lbrk1 =>
    rw [exec_lbrk_of_depth_ne_zero h (by omega), popLoop_of_depth_one hd, inner_of_depth_one hd]
  case lbrk2 =>
    rw [exec_lbrk_of_depth_ne_zero h (by omega), popLoop_of_depth_two hd, inner_of_depth_two hd]

/-- Settles O15, from LOOP's entry, and from what falling through and LBRK do at each depth. -/
theorem hardwareLoops : Obligations.HardwareLoops := ⟨loopEntry, loopBackAndBreak⟩

end Sys2Proof.Machine
end
